-- ==== Sys2Proof/Word.lean ====
section
/-! DEFINITION. The word of the block (R11): every memory, register and port lane is made of 32-bit words. -/

namespace Sys2Proof

/-- A 32-bit word (R11): an unsigned integer or the bits of an `F32` value (R14). -/
abbrev Word := BitVec 32

/-- Reads a list of bits, least significant first, as a number (R10). -/
def ofBits : List Bool → Nat
  | [] => 0
  | b :: bs => b.toNat + 2 * ofBits bs

/-- One bit as a word: `0` or `1` (R10). -/
def bitWord (b : Bool) : Word := BitVec.ofNat 32 b.toNat

end Sys2Proof
end

