-- ==== Sys2Proof/Config.lean ====
section
/-! DEFINITION. The configuration record of the block (R9, R80) and the values the spec leaves open, each an opaque
constant with no body. -/

namespace Sys2Proof

/-- A complex number of two `F32` words (R288). -/
structure Cpx where
  re : Word
  im : Word
  deriving DecidableEq, Repr, Inhabited

/-- Which algorithm `NUM.fft` stands for (R17, R290, U3): the default one, or another, which is free within its named
properties (R291; log 23). -/
inductive TransformChoice where
  | standard | other
  deriving DecidableEq, Repr

/-- Which table `COLRANGE` stands for (R9, R296, U6): the ideal definition, or another, which is free within its named
properties (log 9). -/
inductive ColumnChoice where
  | ideal | other
  deriving DecidableEq, Repr

/-- The parameters of the block that an implementation chooses (R9, U7). NCH, NSTAGE, IDXW, F_MIN and F_MAX are fixed.
The other functions of `NUM` are the opaque constants below (log 5, log 6). -/
structure Config where
  /-- `LOG2N`: FFT_N is 2^LOG2N. -/
  log2N : Nat
  /-- FIFO_CAP is 2^`log2Cap`. -/
  log2Cap : Nat
  /-- `W_MAX`: largest display width. -/
  wMax : Nat
  /-- `FS_MIN`: smallest legal sample rate. -/
  fsMin : Word
  /-- `FS_MAX`: largest legal sample rate. -/
  fsMax : Word
  /-- `WIN` (R286): FFT_N words. -/
  win : List Word
  /-- `TW` (R288): FFT_N/2 pairs. -/
  tw : List Cpx
  /-- `NUM.fft` (R17). -/
  fft : TransformChoice
  /-- `COLRANGE` (R296). -/
  colRange : ColumnChoice
  deriving DecidableEq, Repr

namespace Config

/-- `FFT_N` (R9): FFT size and rolling-buffer length. -/
def fftN (κ : Config) : Nat := 2 ^ κ.log2N
/-- `NBIN` = FFT_N / 2 (R9). -/
def nBin (κ : Config) : Nat := κ.fftN / 2
/-- `BLK_MAX` = FFT_N (R9). -/
def blkMax (κ : Config) : Nat := κ.fftN
/-- `FIFO_CAP` (R9): slots per FIFO. -/
def fifoCap (κ : Config) : Nat := 2 ^ κ.log2Cap

/-- `F_MIN` (R9), in hertz: fixed. -/
abbrev fMin : Nat := 20
/-- `F_MAX / F_MIN` (R9): 20000 Hz over 20 Hz, fixed. -/
abbrev fRatio : Nat := 1000
/-- `CORE_ID` (R1, R47). -/
abbrev coreId : Nat := 0x01

/-- The bits of a NaN that an operation produces (R16, U1): a free value, one for each value of the draw counter and
each place inside a step. Only its sign and payload are used (`F32.asNaN`). DESIGN CHOICE: free (log 3). -/
opaque nanDraw : Nat → Nat → Word

/-- `NUM.sin` (R17, U2) before the named properties are imposed: a free value (log 5). -/
opaque sinRaw : Word → Word
/-- `NUM.cos` (R17, U2) before the named properties are imposed: a free value (log 5). -/
opaque cosRaw : Word → Word
/-- `NUM.tan` (R17, U2) before the named properties are imposed: a free value (log 5). -/
opaque tanRaw : Word → Word
/-- `NUM.log10` (R17, U2) before the named properties are imposed: a free value (log 5). -/
opaque log10Raw : Word → Word
/-- `NUM.pow10` (R17, U2) before the named properties are imposed: a free value (log 5). -/
opaque pow10Raw : Word → Word

/-- Output `k` of another `NUM.fft` than the default (R291, U3, U4), before the named properties are imposed: a free
value of the input words and `k` (log 23). -/
opaque fftRaw : List Word → Nat → Cpx

/-- Column `x` of another `COLRANGE` than the ideal one (R296, U6), before the named properties are imposed, for LOG2N,
`x`, the width and the sample rate; also the column where R296 defines nothing: a free value (log 9). -/
opaque colRangeRaw : Nat → Nat → Nat → Word → Option (Nat × Nat)

end Config

end Sys2Proof
end

