-- ==== Sys2Proof/Machine/Float.lean ====
section
/-! DEFINITION. IEEE 754 binary32 arithmetic (R14, R15), the NaN draws (R16) and the constants of R18.

A finite `F32` value is an integer number of units of 2^-149, the smallest subnormal; an operation computes the exact
result as a rational number of these units and rounds it once. -/

namespace Sys2Proof.Machine.F32

/-- The sign bit (R14). -/
def sign (w : Word) : Bool := w.msb
/-- Bits 30:0: exponent field and fraction (R14). -/
def mag (w : Word) : Nat := w.toNat % 2 ^ 31
/-- The bits of +Inf (R14). -/
def infBits : Nat := 0x7F800000
/-- `isNaN` (R14): exponent 0xFF, fraction nonzero. -/
def isNaN (w : Word) : Bool := decide (infBits < mag w)
/-- `isInf` (R14). -/
def isInf (w : Word) : Bool := mag w == infBits
/-- `isFinite` (R14): exponent field not 0xFF. -/
def isFinite (w : Word) : Bool := decide (mag w < infBits)
/-- A zero of either sign (R14). -/
def isZero (w : Word) : Bool := mag w == 0

/-- `1.0` (R14). -/
def one : Word := 0x3F800000#32
/-- `+0.0` (R14). -/
def zero : Word := 0x00000000#32
/-- `PI` (R18). -/
def pi : Word := 0x40490FDB#32
/-- `TWO_PI` (R18). -/
def twoPi : Word := 0x40C90FDB#32
/-- `0.5` (R18). -/
def half : Word := 0x3F000000#32
/-- `2.0` (R18). -/
def two : Word := 0x40000000#32
/-- `-2.0` (R18). -/
def negTwo : Word := 0xC0000000#32
/-- `20.0` (R18). -/
def twenty : Word := 0x41A00000#32
/-- `40.0` (R18). -/
def forty : Word := 0x42200000#32

/-- The absolute value of a finite word, in units of 2^-149 (R14): subnormals have exponent field 0. -/
def units (w : Word) : Nat :=
  let e := mag w / 2 ^ 23
  let f := mag w % 2 ^ 23
  if e = 0 then f else (2 ^ 23 + f) * 2 ^ (e - 1)

/-- The value of a finite word, in units of 2^-149 (R14). -/
def signedUnits (w : Word) : Int := if sign w then -(units w : Int) else (units w : Int)

/-- The word with the given sign bit and bits 30:0 (R14). -/
def pack (neg : Bool) (m : Nat) : Word := BitVec.ofNat 32 (if neg then 2 ^ 31 + m else m)

/-- The nearest integer to `n / d`, ties to even (R15). -/
def roundHalfEven (n d : Nat) : Nat :=
  let q := n / d
  let r := n % d
  if 2 * r < d then q else if d < 2 * r then q + 1 else q + q % 2

/-- Bits 30:0 of the `F32` value nearest to `num / den` units of 2^-149, ties to even, with overflow to Inf and
gradual underflow (R14, R15). -/
def roundMag (num den : Nat) : Nat :=
  let k := (num / den).log2 - 23
  min (k * 2 ^ 23 + roundHalfEven num (den * 2 ^ k)) infBits

/-- A NaN with the sign and payload of the draw `ν` (R16, U1): `ν` itself when it is a NaN. -/
def asNaN (ν : Word) : Word := if isNaN ν then ν else ν ||| 0x7FC00000#32

/-- `-v` (R15): the sign bit inverted. -/
def fneg (v : Word) : Word := v ^^^ 0x80000000#32

/-- `fadd(a, b)` (R15), with the draw `ν` for a NaN result. -/
def fadd (ν a b : Word) : Word :=
  if isNaN a || isNaN b then asNaN ν
  else if isInf a then (if isInf b && sign a != sign b then asNaN ν else a)
  else if isInf b then b
  else
    let n := signedUnits a + signedUnits b
    if n = 0 then pack (sign a && sign b) 0 else pack (decide (n < 0)) (roundMag n.natAbs 1)

/-- `fsub(a, b)` (R15). -/
def fsub (ν a b : Word) : Word := fadd ν a (fneg b)

/-- `fmul(a, b)` (R15). -/
def fmul (ν a b : Word) : Word :=
  let s := sign a != sign b
  if isNaN a || isNaN b then asNaN ν
  else if isInf a || isInf b then (if isZero a || isZero b then asNaN ν else pack s infBits)
  else pack s (roundMag (units a * units b) (2 ^ 149))

/-- `fdiv(a, b)` (R15). -/
def fdiv (ν a b : Word) : Word :=
  let s := sign a != sign b
  if isNaN a || isNaN b then asNaN ν
  else if isInf a then (if isInf b then asNaN ν else pack s infBits)
  else if isInf b then pack s 0
  else if isZero b then (if isZero a then asNaN ν else pack s infBits)
  else pack s (roundMag (units a * 2 ^ 149) (units b))

/-- The integer square root of `n`, built bit by bit from bit `i - 1` down on top of `r`. -/
def isqrtFrom (n : Nat) : Nat → Nat → Nat
  | 0, r => r
  | i + 1, r => isqrtFrom n i (if (r + 2 ^ i) * (r + 2 ^ i) ≤ n then r + 2 ^ i else r)

/-- The integer square root of `n`. -/
def isqrt (n : Nat) : Nat := isqrtFrom n (n.log2 / 2 + 1) 0

/-- `fsqrt(a)` (R15). The root of a 24-bit significand is never a tie, so half a unit stands for a remainder. -/
def fsqrt (ν a : Word) : Word :=
  if isNaN a then asNaN ν
  else if isZero a then a
  else if sign a then asNaN ν
  else if isInf a then a
  else
    let n := units a * 2 ^ 149
    let r := isqrt n
    pack false (roundMag (2 * r + (if r * r < n then 1 else 0)) 2)

/-- The order of `F32` values other than NaN (R15): both zeros are 0. -/
def key (w : Word) : Int := if sign w then -(mag w : Int) else (mag w : Int)

/-- `flt(a, b)` (R15): ordered, false when an operand is NaN. -/
def flt (a b : Word) : Bool := !isNaN a && !isNaN b && decide (key a < key b)
/-- `fle(a, b)` (R15). -/
def fle (a b : Word) : Bool := !isNaN a && !isNaN b && decide (key a ≤ key b)
/-- `fgt(a, b)` (R15). -/
def fgt (a b : Word) : Bool := flt b a
/-- `feq(a, b)` (R15). -/
def feq (a b : Word) : Bool := !isNaN a && !isNaN b && decide (key a = key b)

end Sys2Proof.Machine.F32
end

