-- ==== Sys2Proof/Syntax.lean ====
section
/-! DEFINITION. The commands of the block (R127): one constructor per row of the opcode table, with the fields its
format uses (R121, R122). `imm` is the whole 16-bit field; its unused bits are checked in WellFormed. -/

namespace Sys2Proof

/-- The four command ports (R6, R7, R120). -/
inductive Port where
  | ctl | aud | ana | ren
  deriving DecidableEq, Repr

/-- A command word with its operands, as decoded (R127). -/
inductive Instr where
  /-- NOP, format Z (R331). -/
  | nop
  /-- PREPARE, format M+D: block size, sample rate (R334). -/
  | prepare (imm : BitVec 16) (wdata : Word)
  /-- RESET, format Z (R335). -/
  | reset
  /-- WRS, format X+D: control register, value (R338). -/
  | wrs (idx : BitVec 4) (wdata : Word)
  /-- RDS, format X: control register (R339). -/
  | rds (idx : BitVec 4)
  /-- WRC, format X+D: staging word, value (R152). -/
  | wrc (idx : BitVec 4) (wdata : Word)
  /-- RDC, format X: staging word (R153). -/
  | rdc (idx : BitVec 4)
  /-- FACPK, format Z (R156). -/
  | facpk
  /-- FACLC, format M: section in `imm[1:0]` (R160). -/
  | faclc (imm : BitVec 16)
  /-- FACHC, format M: section in `imm[1:0]` (R164). -/
  | fachc (imm : BitVec 16)
  /-- SETCOEF, format CX: channel, stage (R186). -/
  | setcoef (ch idx : BitVec 4)
  /-- CUTCFG, format CXM: channel, chain position, slope code in `imm[1:0]` (R188). -/
  | cutcfg (ch idx : BitVec 4) (imm : BitVec 16)
  /-- POSBYP, format CXM: channel, chain position, flag in `imm[0]` (R190). -/
  | posbyp (ch idx : BitVec 4) (imm : BitVec 16)
  /-- ANEN, format M: flag in `imm[0]` (R191). -/
  | anen (imm : BitVec 16)
  /-- COMMIT, format Z (R192). -/
  | commit
  /-- RDCOEF, format CXM: channel, stage, word in `imm[2:0]`, selection in `imm[4]` (R196). -/
  | rdcoef (ch idx : BitVec 4) (imm : BitVec 16)
  /-- RDCFG, format CM: channel, copy in `imm[0]` (R197). -/
  | rdcfg (ch : BitVec 4) (imm : BitVec 16)
  /-- BLKBEG, format Z (R214). -/
  | blkbeg
  /-- SMP, format C+D: channel, sample (R216). -/
  | smp (ch : BitVec 4) (wdata : Word)
  /-- BLKEND, format Z (R220). -/
  | blkend
  /-- FSNAP, format C (R248). -/
  | fsnap (ch : BitVec 4)
  /-- FAVAIL, format C (R250). -/
  | favail (ch : BitVec 4)
  /-- FPOPB, format C (R251). -/
  | fpopb (ch : BitVec 4)
  /-- FRD, format C (R252). -/
  | frd (ch : BitVec 4)
  /-- FPOPE, format C (R253). -/
  | fpope (ch : BitVec 4)
  /-- ACCUM, format C (R283). -/
  | accum (ch : BitVec 4)
  /-- XFORM, format C (R285). -/
  | xform (ch : BitVec 4)
  /-- RDBIN, format CM: channel, bin (R293). -/
  | rdbin (ch : BitVec 4) (imm : BitVec 16)
  /-- MAP, format C (R299). -/
  | map (ch : BitVec 4)
  /-- PUBLISH, format C (R302). -/
  | publish (ch : BitVec 4)
  /-- PTAKE, format C (R312). -/
  | ptake (ch : BitVec 4)
  /-- PRD, format CM: channel, column (R313). -/
  | prd (ch : BitVec 4) (imm : BitVec 16)
  deriving DecidableEq, Repr

/-- The port that accepts the command, or none for NOP, which every port accepts (R127). -/
def Instr.port? : Instr → Option Port
  | .nop => none
  | .prepare _ _ | .reset | .wrs _ _ | .rds _ | .wrc _ _ | .rdc _ | .facpk | .faclc _ | .fachc _ | .setcoef _ _
  | .cutcfg _ _ _ | .posbyp _ _ _ | .anen _ | .commit | .rdcoef _ _ _ | .rdcfg _ _ => some .ctl
  | .blkbeg | .smp _ _ | .blkend => some .aud
  | .fsnap _ | .favail _ | .fpopb _ | .frd _ | .fpope _ | .accum _ | .xform _ | .rdbin _ _ | .map _
  | .publish _ => some .ana
  | .ptake _ | .prd _ _ => some .ren

end Sys2Proof
end

