-- ==== Sys2Proof/WellFormed.lean ====
section
/-! DEFINITION. Which command terms have an encoding: the bits of `imm` that the command does not use are zero
(R122, R123). Operand values out of range are well formed: they decode and are answered ST_OPERAND (R124). -/

namespace Sys2Proof

/-- The bits of `imm` that the command uses (R123); for a command without an `imm` operand, none. -/
def Instr.immUsed : Instr → BitVec 16
  | .prepare _ _ => 0xFFFF#16
  | .faclc _ => 0x0003#16
  | .fachc _ => 0x0003#16
  | .cutcfg _ _ _ => 0x0003#16
  | .posbyp _ _ _ => 0x0001#16
  | .anen _ => 0x0001#16
  | .rdcoef _ _ _ => 0x0017#16
  | .rdcfg _ _ => 0x0001#16
  | .rdbin _ _ => 0xFFFF#16
  | .prd _ _ => 0xFFFF#16
  | .nop | .reset | .wrs _ _ | .rds _ | .wrc _ _ | .rdc _ | .facpk | .setcoef _ _ | .commit | .blkbeg | .smp _ _
  | .blkend | .fsnap _ | .favail _ | .fpopb _ | .frd _ | .fpope _ | .accum _ | .xform _ | .map _ | .publish _
  | .ptake _ => 0x0000#16

/-- The `imm` field of the command, zero where its format has none (R122). -/
def Instr.immField : Instr → BitVec 16
  | .prepare imm _ => imm
  | .faclc imm => imm
  | .fachc imm => imm
  | .cutcfg _ _ imm => imm
  | .posbyp _ _ imm => imm
  | .anen imm => imm
  | .rdcoef _ _ imm => imm
  | .rdcfg _ imm => imm
  | .rdbin _ imm => imm
  | .prd _ imm => imm
  | .nop | .reset | .wrs _ _ | .rds _ | .wrc _ _ | .rdc _ | .facpk | .setcoef _ _ | .commit | .blkbeg | .smp _ _
  | .blkend | .fsnap _ | .favail _ | .fpopb _ | .frd _ | .fpope _ | .accum _ | .xform _ | .map _ | .publish _
  | .ptake _ => 0x0000#16

/-- The command has an encoding: no unused bit of `imm` is set (R123). -/
def Instr.wellFormed (i : Instr) : Bool := i.immField &&& ~~~i.immUsed == 0#16

end Sys2Proof
end

