-- ==== Sys2Proof/Decode.lean ====
section
/-! DEFINITION. Decoding a command presented on a port (R121 to R128), and the encoder. The decoder is total and
answers none for an illegal word; a wrong port, an unassigned opcode and a set unused bit are all illegal (R126). -/

namespace Sys2Proof

/-- `op` = `cmd[31:24]` (R19, R121). -/
def cmdOp (cmd : Word) : BitVec 8 := cmd.extractLsb' 24 8
/-- `ch` = `cmd[23:20]` (R19, R121). -/
def cmdCh (cmd : Word) : BitVec 4 := cmd.extractLsb' 20 4
/-- `idx` = `cmd[19:16]` (R19, R121). -/
def cmdIdx (cmd : Word) : BitVec 4 := cmd.extractLsb' 16 4
/-- `imm` = `cmd[15:0]` (R19, R121). -/
def cmdImm (cmd : Word) : BitVec 16 := cmd.extractLsb' 0 16

/-- The command word with the given fields (R121). -/
def mkCmd (op : BitVec 8) (ch idx : BitVec 4) (imm : BitVec 16) : Word := op ++ ch ++ idx ++ imm

/-- The term the fields of a command word name, by the opcode map (R127); none for an unassigned opcode. The fields
the format does not use are not looked at here. -/
def termOf (op : BitVec 8) (ch idx : BitVec 4) (imm : BitVec 16) (wdata : Word) : Option Instr :=
  match op.toNat with
  | 0x00 => some .nop
  | 0x10 => some (.prepare imm wdata)
  | 0x11 => some .reset
  | 0x12 => some (.wrs idx wdata)
  | 0x13 => some (.rds idx)
  | 0x14 => some (.wrc idx wdata)
  | 0x15 => some (.rdc idx)
  | 0x16 => some .facpk
  | 0x17 => some (.faclc imm)
  | 0x18 => some (.fachc imm)
  | 0x19 => some (.setcoef ch idx)
  | 0x1A => some (.cutcfg ch idx imm)
  | 0x1B => some (.posbyp ch idx imm)
  | 0x1C => some (.anen imm)
  | 0x1D => some .commit
  | 0x1E => some (.rdcoef ch idx imm)
  | 0x1F => some (.rdcfg ch imm)
  | 0x20 => some .blkbeg
  | 0x21 => some (.smp ch wdata)
  | 0x22 => some .blkend
  | 0x30 => some (.fsnap ch)
  | 0x31 => some (.favail ch)
  | 0x32 => some (.fpopb ch)
  | 0x33 => some (.frd ch)
  | 0x34 => some (.fpope ch)
  | 0x35 => some (.accum ch)
  | 0x36 => some (.xform ch)
  | 0x37 => some (.rdbin ch imm)
  | 0x38 => some (.map ch)
  | 0x39 => some (.publish ch)
  | 0x40 => some (.ptake ch)
  | 0x41 => some (.prd ch imm)
  | _ => none

/-- The port accepts the command (R126 step 2, R380). -/
def Port.accepts (p : Port) (i : Instr) : Bool :=
  match i.port? with
  | none => true
  | some q => p == q

/-- The opcode of the command (R127). -/
def Instr.opcode : Instr → BitVec 8
  | .nop => 0x00#8
  | .prepare _ _ => 0x10#8
  | .reset => 0x11#8
  | .wrs _ _ => 0x12#8
  | .rds _ => 0x13#8
  | .wrc _ _ => 0x14#8
  | .rdc _ => 0x15#8
  | .facpk => 0x16#8
  | .faclc _ => 0x17#8
  | .fachc _ => 0x18#8
  | .setcoef _ _ => 0x19#8
  | .cutcfg _ _ _ => 0x1A#8
  | .posbyp _ _ _ => 0x1B#8
  | .anen _ => 0x1C#8
  | .commit => 0x1D#8
  | .rdcoef _ _ _ => 0x1E#8
  | .rdcfg _ _ => 0x1F#8
  | .blkbeg => 0x20#8
  | .smp _ _ => 0x21#8
  | .blkend => 0x22#8
  | .fsnap _ => 0x30#8
  | .favail _ => 0x31#8
  | .fpopb _ => 0x32#8
  | .frd _ => 0x33#8
  | .fpope _ => 0x34#8
  | .accum _ => 0x35#8
  | .xform _ => 0x36#8
  | .rdbin _ _ => 0x37#8
  | .map _ => 0x38#8
  | .publish _ => 0x39#8
  | .ptake _ => 0x40#8
  | .prd _ _ => 0x41#8

/-- The `ch` field of the command, zero where its format has none (R122). -/
def Instr.chField : Instr → BitVec 4
  | .setcoef ch _ => ch
  | .cutcfg ch _ _ => ch
  | .posbyp ch _ _ => ch
  | .rdcoef ch _ _ => ch
  | .rdcfg ch _ => ch
  | .smp ch _ => ch
  | .fsnap ch => ch
  | .favail ch => ch
  | .fpopb ch => ch
  | .frd ch => ch
  | .fpope ch => ch
  | .accum ch => ch
  | .xform ch => ch
  | .rdbin ch _ => ch
  | .map ch => ch
  | .publish ch => ch
  | .ptake ch => ch
  | .prd ch _ => ch
  | .nop | .prepare _ _ | .reset | .wrs _ _ | .rds _ | .wrc _ _ | .rdc _ | .facpk | .faclc _ | .fachc _ | .anen _
  | .commit | .blkbeg | .blkend => 0#4

/-- The `idx` field of the command, zero where its format has none (R122). -/
def Instr.idxField : Instr → BitVec 4
  | .wrs idx _ => idx
  | .rds idx => idx
  | .wrc idx _ => idx
  | .rdc idx => idx
  | .setcoef _ idx => idx
  | .cutcfg _ idx _ => idx
  | .posbyp _ idx _ => idx
  | .rdcoef _ idx _ => idx
  | .nop | .prepare _ _ | .reset | .facpk | .faclc _ | .fachc _ | .anen _ | .commit | .rdcfg _ _ | .blkbeg
  | .smp _ _ | .blkend | .fsnap _ | .favail _ | .fpopb _ | .frd _ | .fpope _ | .accum _ | .xform _ | .rdbin _ _
  | .map _ | .publish _ | .ptake _ | .prd _ _ => 0#4

/-- The data word of the command, zero where its format has no `+D` (R122). -/
def Instr.dataField : Instr → Word
  | .prepare _ wdata => wdata
  | .wrs _ wdata => wdata
  | .wrc _ wdata => wdata
  | .smp _ wdata => wdata
  | .nop | .reset | .rds _ | .rdc _ | .facpk | .faclc _ | .fachc _ | .setcoef _ _ | .cutcfg _ _ _ | .posbyp _ _ _
  | .anen _ | .commit | .rdcoef _ _ _ | .rdcfg _ _ | .blkbeg | .blkend | .fsnap _ | .favail _ | .fpopb _ | .frd _
  | .fpope _ | .accum _ | .xform _ | .rdbin _ _ | .map _ | .publish _ | .ptake _ | .prd _ _ => 0#32

/-- Decodes a command presented on a port (R126): (1) the opcode must be assigned, (2) the port must be the
command's, (3) every field and `imm` bit its format does not use must be zero. `wdata` is ignored by a format
without `+D` (R122). -/
def decode (p : Port) (cmd wdata : Word) : Option Instr :=
  match termOf (cmdOp cmd) (cmdCh cmd) (cmdIdx cmd) (cmdImm cmd) wdata with
  | none => none
  | some i =>
    if p.accepts i && cmdCh cmd == i.chField && cmdIdx cmd == i.idxField && cmdImm cmd == i.immField && i.wellFormed
    then some i else none

/-- The two words of a command (R19, R120, R127): its `cmd` and its `wdata`. -/
def encode (i : Instr) : Word × Word := (mkCmd i.opcode i.chField i.idxField i.immField, i.dataField)

/-- The port whose class is `op[7:4]` (R121); class 0 and the unassigned classes are put on CTL (log 17). -/
def portOfClass (cmd : Word) : Port :=
  match (cmdOp cmd).toNat / 16 with
  | 2 => .aud
  | 3 => .ana
  | 4 => .ren
  | _ => .ctl

/-- The low `nbits` bits of `w`, as the command word and the data word of one instruction: `cmd` is the first word,
`wdata` the second; bits above `nbits` are zero (log 17). -/
def tableWords (nbits w : Nat) : Word × Word :=
  let v := w % 2 ^ nbits
  (BitVec.ofNat 32 v, BitVec.ofNat 32 (v / 2 ^ 32))

/-- The instruction the decoder reads from a word of the opcode table, on the port of the word's class. -/
def decodeTableWord (nbits w : Nat) : Option Instr :=
  let v := tableWords nbits w
  decode (portOfClass v.1) v.1 v.2

/-- A row of the opcode table: a word `w` is this command when `w &&& mask = match` (R126, R132); `port` is none for
NOP, which every port accepts. -/
structure OpcodeRow where
  mask : Word
  value : Word
  port : Option Port
  deriving DecidableEq, Repr

/-- The opcode table's matches and masks (R132). -/
def opcodeTable : List OpcodeRow := [
  ⟨0xFFFFFFFF#32, 0x00000000#32, none⟩,
  ⟨0xFFFF0000#32, 0x10000000#32, some .ctl⟩,
  ⟨0xFFFFFFFF#32, 0x11000000#32, some .ctl⟩,
  ⟨0xFFF0FFFF#32, 0x12000000#32, some .ctl⟩,
  ⟨0xFFF0FFFF#32, 0x13000000#32, some .ctl⟩,
  ⟨0xFFF0FFFF#32, 0x14000000#32, some .ctl⟩,
  ⟨0xFFF0FFFF#32, 0x15000000#32, some .ctl⟩,
  ⟨0xFFFFFFFF#32, 0x16000000#32, some .ctl⟩,
  ⟨0xFFFFFFFC#32, 0x17000000#32, some .ctl⟩,
  ⟨0xFFFFFFFC#32, 0x18000000#32, some .ctl⟩,
  ⟨0xFF00FFFF#32, 0x19000000#32, some .ctl⟩,
  ⟨0xFF00FFFC#32, 0x1A000000#32, some .ctl⟩,
  ⟨0xFF00FFFE#32, 0x1B000000#32, some .ctl⟩,
  ⟨0xFFFFFFFE#32, 0x1C000000#32, some .ctl⟩,
  ⟨0xFFFFFFFF#32, 0x1D000000#32, some .ctl⟩,
  ⟨0xFF00FFE8#32, 0x1E000000#32, some .ctl⟩,
  ⟨0xFF0FFFFE#32, 0x1F000000#32, some .ctl⟩,
  ⟨0xFFFFFFFF#32, 0x20000000#32, some .aud⟩,
  ⟨0xFF0FFFFF#32, 0x21000000#32, some .aud⟩,
  ⟨0xFFFFFFFF#32, 0x22000000#32, some .aud⟩,
  ⟨0xFF0FFFFF#32, 0x30000000#32, some .ana⟩,
  ⟨0xFF0FFFFF#32, 0x31000000#32, some .ana⟩,
  ⟨0xFF0FFFFF#32, 0x32000000#32, some .ana⟩,
  ⟨0xFF0FFFFF#32, 0x33000000#32, some .ana⟩,
  ⟨0xFF0FFFFF#32, 0x34000000#32, some .ana⟩,
  ⟨0xFF0FFFFF#32, 0x35000000#32, some .ana⟩,
  ⟨0xFF0FFFFF#32, 0x36000000#32, some .ana⟩,
  ⟨0xFF0F0000#32, 0x37000000#32, some .ana⟩,
  ⟨0xFF0FFFFF#32, 0x38000000#32, some .ana⟩,
  ⟨0xFF0FFFFF#32, 0x39000000#32, some .ana⟩,
  ⟨0xFF0FFFFF#32, 0x40000000#32, some .ren⟩,
  ⟨0xFF0F0000#32, 0x41000000#32, some .ren⟩]

end Sys2Proof
end

