-- ==== Sys2Proof/Machine/Tables.lean ====
section
/-! DEFINITION. The ROM tables: INVQ (R159), and for FFT_N = 2048 the analysis window WIN (R286) and the FFT twiddles TW
(R288), each entry the nearest `F32` to its exact real value (log 7); and the block's default configuration (R9). -/

namespace Sys2Proof.Machine

/-- The ten words of `INVQ[S][i]` (R159), row S. -/
def invQTable : List (List Word) := [
  [0x3FB504F3#32],
  [0x3FEC835E#32, 0x3F43EF15#32],
  [0x3FF746EA#32, 0x3FB504F3#32, 0x3F0483EE#32],
  [0x3FFB14BE#32, 0x3FD4DB31#32, 0x3F8E39DA#32, 0x3EC7C5C2#32]]

/-- `INVQ[S][i]` (R159), for i from 0 to S. -/
def invQ (S i : Nat) : Word := (invQTable.getD S []).getD i 0#32

/-- Words of the window table `WIN` (R286), entries 0 to 63. -/
def winPart0 : List Nat := [
  0x387BA882, 0x387C379C, 0x387DE4F2, 0x38805852, 0x38824D71, 0x3884D1FA, 0x3887E61B, 0x388B8A0A,
  0x388FBE0A, 0x38948266, 0x3899D773, 0x389FBD91, 0x38A6352B, 0x38AD3EB3, 0x38B4DAA9, 0x38BD0993,
  0x38C5CC05, 0x38CF229A, 0x38D90DF9, 0x38E38ED2, 0x38EEA5DF, 0x38FA53E6, 0x39034CDA, 0x3909BC11,
  0x3910780A, 0x3917813B, 0x391ED81F, 0x39267D37, 0x392E7108, 0x3936B41D, 0x393F4706, 0x39482A58,
  0x39515EAB, 0x395AE49F, 0x3964BCD7, 0x396EE7FC, 0x397966BD, 0x39821CE6, 0x3987B0F0, 0x398D6FDB,
  0x39935A09, 0x39996FDC, 0x399FB1BC, 0x39A62010, 0x39ACBB43, 0x39B383C4, 0x39BA7A01, 0x39C19E6F,
  0x39C8F181, 0x39D073B0, 0x39D82575, 0x39E0074E, 0x39E819B9, 0x39F05D39, 0x39F8D251, 0x3A00BCC4,
  0x3A0529B4, 0x3A09B03E, 0x3A0E50A9, 0x3A130B3D, 0x3A17E045, 0x3A1CD00C, 0x3A21DADC, 0x3A270104]

/-- Words of the window table `WIN` (R286), entries 64 to 127. -/
def winPart1 : List Nat := [
  0x3A2C42D3, 0x3A31A098, 0x3A371AA5, 0x3A3CB14B, 0x3A4264DF, 0x3A4835B6, 0x3A4E2426, 0x3A543085,
  0x3A5A5B2E, 0x3A60A47A, 0x3A670CC4, 0x3A6D9468, 0x3A743BC5, 0x3A7B0339, 0x3A80F592, 0x3A8479F4,
  0x3A880EF5, 0x3A8BB4C4, 0x3A8F6B97, 0x3A93339F, 0x3A970D10, 0x3A9AF81F, 0x3A9EF502, 0x3AA303ED,
  0x3AA72518, 0x3AAB58B8, 0x3AAF9F07, 0x3AB3F83B, 0x3AB8648E, 0x3ABCE439, 0x3AC17777, 0x3AC61E81,
  0x3ACAD994, 0x3ACFA8EB, 0x3AD48CC3, 0x3AD98559, 0x3ADE92EA, 0x3AE3B5B6, 0x3AE8EDFB, 0x3AEE3BF9,
  0x3AF39FF0, 0x3AF91A21, 0x3AFEAACE, 0x3B02291C, 0x3B050851, 0x3B07F328, 0x3B0AE9C3, 0x3B0DEC44,
  0x3B10FACE, 0x3B141583, 0x3B173C87, 0x3B1A6FFD, 0x3B1DB009, 0x3B20FCD0, 0x3B245675, 0x3B27BD1D,
  0x3B2B30EE, 0x3B2EB20D, 0x3B32409E, 0x3B35DCC9, 0x3B3986B4, 0x3B3D3E84, 0x3B410462, 0x3B44D873]

/-- Words of the window table `WIN` (R286), entries 128 to 191. -/
def winPart2 : List Nat := [
  0x3B48BAE0, 0x3B4CABD0, 0x3B50AB6B, 0x3B54B9DA, 0x3B58D744, 0x3B5D03D4, 0x3B613FB3, 0x3B658B09,
  0x3B69E601, 0x3B6E50C4, 0x3B72CB7E, 0x3B775659, 0x3B7BF17F, 0x3B804E8F, 0x3B82ACAF, 0x3B851337,
  0x3B87823C, 0x3B89F9D5, 0x3B8C7A18, 0x3B8F031B, 0x3B9194F6, 0x3B942FBE, 0x3B96D38C, 0x3B998076,
  0x3B9C3693, 0x3B9EF5FB, 0x3BA1BEC5, 0x3BA49109, 0x3BA76CDF, 0x3BAA525F, 0x3BAD41A0, 0x3BB03ABC,
  0x3BB33DCA, 0x3BB64AE2, 0x3BB9621F, 0x3BBC8398, 0x3BBFAF66, 0x3BC2E5A2, 0x3BC62666, 0x3BC971CC,
  0x3BCCC7EB, 0x3BD028DF, 0x3BD394C0, 0x3BD70BA9, 0x3BDA8DB4, 0x3BDE1AFB, 0x3BE1B398, 0x3BE557A6,
  0x3BE9073F, 0x3BECC27E, 0x3BF0897E, 0x3BF45C59, 0x3BF83B2B, 0x3BFC260F, 0x3C000E90, 0x3C02103D,
  0x3C04181D, 0x3C06263C, 0x3C083AAA, 0x3C0A5573, 0x3C0C76A7, 0x3C0E9E53, 0x3C10CC85, 0x3C13014C]

/-- Words of the window table `WIN` (R286), entries 192 to 255. -/
def winPart3 : List Nat := [
  0x3C153CB6, 0x3C177ED1, 0x3C19C7AC, 0x3C1C1755, 0x3C1E6DDB, 0x3C20CB4D, 0x3C232FB9, 0x3C259B2D,
  0x3C280DB9, 0x3C2A876B, 0x3C2D0853, 0x3C2F9080, 0x3C321FFF, 0x3C34B6E1, 0x3C375535, 0x3C39FB09,
  0x3C3CA86E, 0x3C3F5D72, 0x3C421A25, 0x3C44DE96, 0x3C47AAD4, 0x3C4A7EF0, 0x3C4D5AF8, 0x3C503EFD,
  0x3C532B0E, 0x3C561F3A, 0x3C591B93, 0x3C5C2027, 0x3C5F2D06, 0x3C624240, 0x3C655FE6, 0x3C688607,
  0x3C6BB4B4, 0x3C6EEBFC, 0x3C722BF0, 0x3C7574A0, 0x3C78C61C, 0x3C7C2075, 0x3C7F83BB, 0x3C8177FF,
  0x3C8332A8, 0x3C84F1E0, 0x3C86B5B0, 0x3C887E1F, 0x3C8A4B37, 0x3C8C1CFF, 0x3C8DF37F, 0x3C8FCEC2,
  0x3C91AECD, 0x3C9393AB, 0x3C957D64, 0x3C976C00, 0x3C995F87, 0x3C9B5802, 0x3C9D557A, 0x3C9F57F6,
  0x3CA15F81, 0x3CA36C22, 0x3CA57DE1, 0x3CA794C8, 0x3CA9B0E0, 0x3CABD230, 0x3CADF8C1, 0x3CB0249D]

/-- Words of the window table `WIN` (R286), entries 256 to 319. -/
def winPart4 : List Nat := [
  0x3CB255CB, 0x3CB48C55, 0x3CB6C844, 0x3CB9099F, 0x3CBB5070, 0x3CBD9CC0, 0x3CBFEE97, 0x3CC245FF,
  0x3CC4A2FF, 0x3CC705A1, 0x3CC96DEE, 0x3CCBDBEF, 0x3CCE4FAC, 0x3CD0C92E, 0x3CD3487E, 0x3CD5CDA6,
  0x3CD858AD, 0x3CDAE99E, 0x3CDD8080, 0x3CE01D5D, 0x3CE2C03E, 0x3CE5692C, 0x3CE8182F, 0x3CEACD51,
  0x3CED889B, 0x3CF04A16, 0x3CF311CA, 0x3CF5DFC1, 0x3CF8B403, 0x3CFB8E9A, 0x3CFE6F8F, 0x3D00AB76,
  0x3D02225B, 0x3D039C7E, 0x3D0519E1, 0x3D069A8A, 0x3D081E7C, 0x3D09A5BD, 0x3D0B3052, 0x3D0CBE3E,
  0x3D0E4F86, 0x3D0FE42E, 0x3D117C3C, 0x3D1317B3, 0x3D14B699, 0x3D1658F2, 0x3D17FEC2, 0x3D19A80D,
  0x3D1B54D9, 0x3D1D052A, 0x3D1EB904, 0x3D20706D, 0x3D222B67, 0x3D23E9F9, 0x3D25AC26, 0x3D2771F4,
  0x3D293B65, 0x3D2B0880, 0x3D2CD948, 0x3D2EADC3, 0x3D3085F4, 0x3D3261E0, 0x3D34418B, 0x3D3624FB]

/-- Words of the window table `WIN` (R286), entries 320 to 383. -/
def winPart5 : List Nat := [
  0x3D380C33, 0x3D39F738, 0x3D3BE60E, 0x3D3DD8BA, 0x3D3FCF41, 0x3D41C9A7, 0x3D43C7F0, 0x3D45CA20,
  0x3D47D03D, 0x3D49DA4B, 0x3D4BE84D, 0x3D4DFA49, 0x3D501043, 0x3D522A3F, 0x3D544842, 0x3D566A50,
  0x3D58906D, 0x3D5ABA9E, 0x3D5CE8E7, 0x3D5F1B4D, 0x3D6151D3, 0x3D638C7F, 0x3D65CB54, 0x3D680E57,
  0x3D6A558C, 0x3D6CA0F8, 0x3D6EF09E, 0x3D714483, 0x3D739CAC, 0x3D75F91C, 0x3D7859D7, 0x3D7ABEE3,
  0x3D7D2842, 0x3D7F95FA, 0x3D810407, 0x3D823F42, 0x3D837CAF, 0x3D84BC50, 0x3D85FE28, 0x3D874239,
  0x3D888884, 0x3D89D10C, 0x3D8B1BD3, 0x3D8C68DB, 0x3D8DB825, 0x3D8F09B4, 0x3D905D8A, 0x3D91B3A9,
  0x3D930C12, 0x3D9466C8, 0x3D95C3CD, 0x3D972323, 0x3D9884CB, 0x3D99E8C8, 0x3D9B4F1C, 0x3D9CB7C7,
  0x3D9E22CE, 0x3D9F9030, 0x3DA0FFF1, 0x3DA27211, 0x3DA3E694, 0x3DA55D7A, 0x3DA6D6C6, 0x3DA85279]

/-- Words of the window table `WIN` (R286), entries 384 to 447. -/
def winPart6 : List Nat := [
  0x3DA9D096, 0x3DAB511E, 0x3DACD413, 0x3DAE5976, 0x3DAFE14B, 0x3DB16B91, 0x3DB2F84C, 0x3DB4877C,
  0x3DB61924, 0x3DB7AD45, 0x3DB943E1, 0x3DBADCFA, 0x3DBC7892, 0x3DBE16A9, 0x3DBFB743, 0x3DC15A60,
  0x3DC30002, 0x3DC4A82A, 0x3DC652DB, 0x3DC80016, 0x3DC9AFDD, 0x3DCB6230, 0x3DCD1712, 0x3DCECE85,
  0x3DD08889, 0x3DD24521, 0x3DD4044D, 0x3DD5C610, 0x3DD78A6A, 0x3DD9515E, 0x3DDB1AED, 0x3DDCE717,
  0x3DDEB5DF, 0x3DE08746, 0x3DE25B4E, 0x3DE431F7, 0x3DE60B43, 0x3DE7E733, 0x3DE9C5CA, 0x3DEBA707,
  0x3DED8AED, 0x3DEF717C, 0x3DF15AB6, 0x3DF3469D, 0x3DF53530, 0x3DF72673, 0x3DF91A65, 0x3DFB1108,
  0x3DFD0A5D, 0x3DFF0665, 0x3E008291, 0x3E01834A, 0x3E02855E, 0x3E0388CE, 0x3E048D9B, 0x3E0593C4,
  0x3E069B4B, 0x3E07A42F, 0x3E08AE72, 0x3E09BA14, 0x3E0AC715, 0x3E0BD576, 0x3E0CE537, 0x3E0DF659]

/-- Words of the window table `WIN` (R286), entries 448 to 511. -/
def winPart7 : List Nat := [
  0x3E0F08DC, 0x3E101CC0, 0x3E113206, 0x3E1248AF, 0x3E1360BA, 0x3E147A28, 0x3E1594FA, 0x3E16B12F,
  0x3E17CEC9, 0x3E18EDC8, 0x3E1A0E2B, 0x3E1B2FF3, 0x3E1C5321, 0x3E1D77B4, 0x3E1E9DAE, 0x3E1FC50E,
  0x3E20EDD5, 0x3E221802, 0x3E234397, 0x3E247093, 0x3E259EF6, 0x3E26CEC1, 0x3E27FFF4, 0x3E293290,
  0x3E2A6694, 0x3E2B9C00, 0x3E2CD2D5, 0x3E2E0B12, 0x3E2F44B9, 0x3E307FC9, 0x3E31BC42, 0x3E32FA24,
  0x3E34396F, 0x3E357A24, 0x3E36BC43, 0x3E37FFCB, 0x3E3944BC, 0x3E3A8B17, 0x3E3BD2DC, 0x3E3D1C0A,
  0x3E3E66A2, 0x3E3FB2A4, 0x3E41000F, 0x3E424EE4, 0x3E439F22, 0x3E44F0C9, 0x3E4643DA, 0x3E479854,
  0x3E48EE37, 0x3E4A4583, 0x3E4B9E37, 0x3E4CF855, 0x3E4E53DB, 0x3E4FB0C9, 0x3E510F1F, 0x3E526EDE,
  0x3E53D004, 0x3E553291, 0x3E569686, 0x3E57FBE2, 0x3E5962A5, 0x3E5ACACE, 0x3E5C345D, 0x3E5D9F52]

/-- Words of the window table `WIN` (R286), entries 512 to 575. -/
def winPart8 : List Nat := [
  0x3E5F0BAD, 0x3E60796D, 0x3E61E892, 0x3E63591B, 0x3E64CB08, 0x3E663E5A, 0x3E67B30E, 0x3E692926,
  0x3E6AA0A0, 0x3E6C197C, 0x3E6D93BA, 0x3E6F0F59, 0x3E708C58, 0x3E720AB8, 0x3E738A77, 0x3E750B96,
  0x3E768E13, 0x3E7811EE, 0x3E799727, 0x3E7B1DBD, 0x3E7CA5AE, 0x3E7E2EFC, 0x3E7FB9A5, 0x3E80A2D4,
  0x3E816982, 0x3E8230DD, 0x3E82F8E5, 0x3E83C198, 0x3E848AF6, 0x3E855500, 0x3E861FB5, 0x3E86EB13,
  0x3E87B71C, 0x3E8883CF, 0x3E89512B, 0x3E8A1F30, 0x3E8AEDDD, 0x3E8BBD32, 0x3E8C8D2E, 0x3E8D5DD2,
  0x3E8E2F1D, 0x3E8F010D, 0x3E8FD3A4, 0x3E90A6E0, 0x3E917AC0, 0x3E924F45, 0x3E93246E, 0x3E93FA3B,
  0x3E94D0AA, 0x3E95A7BB, 0x3E967F6F, 0x3E9757C4, 0x3E9830B9, 0x3E990A4F, 0x3E99E485, 0x3E9ABF59,
  0x3E9B9ACD, 0x3E9C76DE, 0x3E9D538D, 0x3E9E30D9, 0x3E9F0EC1, 0x3E9FED45, 0x3EA0CC64, 0x3EA1AC1D]

/-- Words of the window table `WIN` (R286), entries 576 to 639. -/
def winPart9 : List Nat := [
  0x3EA28C70, 0x3EA36D5C, 0x3EA44EE1, 0x3EA530FE, 0x3EA613B3, 0x3EA6F6FD, 0x3EA7DADE, 0x3EA8BF54,
  0x3EA9A45F, 0x3EAA89FE, 0x3EAB7030, 0x3EAC56F4, 0x3EAD3E4A, 0x3EAE2632, 0x3EAF0EA9, 0x3EAFF7B1,
  0x3EB0E147, 0x3EB1CB6B, 0x3EB2B61D, 0x3EB3A15C, 0x3EB48D26, 0x3EB5797B, 0x3EB6665B, 0x3EB753C4,
  0x3EB841B6, 0x3EB93030, 0x3EBA1F31, 0x3EBB0EB8, 0x3EBBFEC4, 0x3EBCEF56, 0x3EBDE06A, 0x3EBED202,
  0x3EBFC41C, 0x3EC0B6B7, 0x3EC1A9D2, 0x3EC29D6D, 0x3EC39186, 0x3EC4861D, 0x3EC57B31, 0x3EC670C0,
  0x3EC766CA, 0x3EC85D4E, 0x3EC9544C, 0x3ECA4BC1, 0x3ECB43AD, 0x3ECC3C10, 0x3ECD34E8, 0x3ECE2E34,
  0x3ECF27F4, 0x3ED02225, 0x3ED11CC8, 0x3ED217DC, 0x3ED3135E, 0x3ED40F4F, 0x3ED50BAE, 0x3ED60878,
  0x3ED705AE, 0x3ED8034E, 0x3ED90157, 0x3ED9FFC8, 0x3EDAFEA0, 0x3EDBFDDE, 0x3EDCFD81, 0x3EDDFD88]

/-- Words of the window table `WIN` (R286), entries 640 to 703. -/
def winPart10 : List Nat := [
  0x3EDEFDF1, 0x3EDFFEBD, 0x3EE0FFE8, 0x3EE20173, 0x3EE3035C, 0x3EE405A3, 0x3EE50845, 0x3EE60B43,
  0x3EE70E9A, 0x3EE8124A, 0x3EE91651, 0x3EEA1AAE, 0x3EEB1F61, 0x3EEC2468, 0x3EED29C1, 0x3EEE2F6C,
  0x3EEF3567, 0x3EF03BB2, 0x3EF1424A, 0x3EF24930, 0x3EF35061, 0x3EF457DC, 0x3EF55FA0, 0x3EF667AC,
  0x3EF76FFF, 0x3EF87897, 0x3EF98173, 0x3EFA8A92, 0x3EFB93F3, 0x3EFC9D93, 0x3EFDA773, 0x3EFEB191,
  0x3EFFBBEB, 0x3F006340, 0x3F00E8A8, 0x3F016E2B, 0x3F01F3CB, 0x3F027985, 0x3F02FF59, 0x3F038548,
  0x3F040B4F, 0x3F04916E, 0x3F0517A5, 0x3F059DF3, 0x3F062457, 0x3F06AAD1, 0x3F07315F, 0x3F07B802,
  0x3F083EB8, 0x3F08C581, 0x3F094C5C, 0x3F09D349, 0x3F0A5A46, 0x3F0AE153, 0x3F0B6870, 0x3F0BEF9B,
  0x3F0C76D3, 0x3F0CFE1A, 0x3F0D856C, 0x3F0E0CCA, 0x3F0E9433, 0x3F0F1BA7, 0x3F0FA324, 0x3F102AA9]

/-- Words of the window table `WIN` (R286), entries 704 to 767. -/
def winPart11 : List Nat := [
  0x3F10B237, 0x3F1139CD, 0x3F11C168, 0x3F12490A, 0x3F12D0B1, 0x3F13585C, 0x3F13E00B, 0x3F1467BD,
  0x3F14EF71, 0x3F157726, 0x3F15FEDC, 0x3F168692, 0x3F170E47, 0x3F1795FA, 0x3F181DAB, 0x3F18A559,
  0x3F192D03, 0x3F19B4A9, 0x3F1A3C48, 0x3F1AC3E2, 0x3F1B4B75, 0x3F1BD300, 0x3F1C5A82, 0x3F1CE1FB,
  0x3F1D696A, 0x3F1DF0CE, 0x3F1E7827, 0x3F1EFF73, 0x3F1F86B2, 0x3F200DE2, 0x3F209504, 0x3F211C17,
  0x3F21A319, 0x3F222A0A, 0x3F22B0E9, 0x3F2337B5, 0x3F23BE6D, 0x3F244512, 0x3F24CBA1, 0x3F25521A,
  0x3F25D87C, 0x3F265EC7, 0x3F26E4FA, 0x3F276B13, 0x3F27F112, 0x3F2876F7, 0x3F28FCC0, 0x3F29826C,
  0x3F2A07FC, 0x3F2A8D6D, 0x3F2B12BF, 0x3F2B97F2, 0x3F2C1D04, 0x3F2CA1F5, 0x3F2D26C4, 0x3F2DAB70,
  0x3F2E2FF9, 0x3F2EB45C, 0x3F2F389B, 0x3F2FBCB3, 0x3F3040A4, 0x3F30C46D, 0x3F31480E, 0x3F31CB85]

/-- Words of the window table `WIN` (R286), entries 768 to 831. -/
def winPart12 : List Nat := [
  0x3F324ED1, 0x3F32D1F3, 0x3F3354E9, 0x3F33D7B2, 0x3F345A4D, 0x3F34DCBA, 0x3F355EF7, 0x3F35E105,
  0x3F3662E1, 0x3F36E48C, 0x3F376605, 0x3F37E749, 0x3F38685A, 0x3F38E936, 0x3F3969DB, 0x3F39EA4A,
  0x3F3A6A82, 0x3F3AEA81, 0x3F3B6A47, 0x3F3BE9D3, 0x3F3C6924, 0x3F3CE839, 0x3F3D6712, 0x3F3DE5AE,
  0x3F3E640B, 0x3F3EE229, 0x3F3F6008, 0x3F3FDDA6, 0x3F405B03, 0x3F40D81D, 0x3F4154F4, 0x3F41D187,
  0x3F424DD6, 0x3F42C9DE, 0x3F4345A1, 0x3F43C11C, 0x3F443C4F, 0x3F44B73A, 0x3F4531DA, 0x3F45AC30,
  0x3F46263B, 0x3F469FFA, 0x3F47196C, 0x3F479290, 0x3F480B65, 0x3F4883EB, 0x3F48FC21, 0x3F497405,
  0x3F49EB98, 0x3F4A62D8, 0x3F4AD9C5, 0x3F4B505E, 0x3F4BC6A1, 0x3F4C3C8F, 0x3F4CB225, 0x3F4D2765,
  0x3F4D9C4C, 0x3F4E10DA, 0x3F4E850E, 0x3F4EF8E7, 0x3F4F6C65, 0x3F4FDF87, 0x3F50524C, 0x3F50C4B2]

/-- Words of the window table `WIN` (R286), entries 832 to 895. -/
def winPart13 : List Nat := [
  0x3F5136BB, 0x3F51A863, 0x3F5219AC, 0x3F528A93, 0x3F52FB19, 0x3F536B3C, 0x3F53DAFB, 0x3F544A57,
  0x3F54B94E, 0x3F5527DF, 0x3F559609, 0x3F5603CD, 0x3F567128, 0x3F56DE1A, 0x3F574AA3, 0x3F57B6C2,
  0x3F582276, 0x3F588DBE, 0x3F58F899, 0x3F596307, 0x3F59CD07, 0x3F5A3698, 0x3F5A9FB9, 0x3F5B086B,
  0x3F5B70AB, 0x3F5BD879, 0x3F5C3FD5, 0x3F5CA6BD, 0x3F5D0D32, 0x3F5D7332, 0x3F5DD8BC, 0x3F5E3DD0,
  0x3F5EA26E, 0x3F5F0693, 0x3F5F6A40, 0x3F5FCD75, 0x3F60302F, 0x3F60926F, 0x3F60F434, 0x3F61557D,
  0x3F61B649, 0x3F621698, 0x3F627669, 0x3F62D5BB, 0x3F63348E, 0x3F6392E1, 0x3F63F0B3, 0x3F644E04,
  0x3F64AAD3, 0x3F65071F, 0x3F6562E7, 0x3F65BE2C, 0x3F6618EB, 0x3F667325, 0x3F66CCD9, 0x3F672607,
  0x3F677EAD, 0x3F67D6CB, 0x3F682E60, 0x3F68856C, 0x3F68DBED, 0x3F6931E5, 0x3F698751, 0x3F69DC31]

/-- Words of the window table `WIN` (R286), entries 896 to 959. -/
def winPart14 : List Nat := [
  0x3F6A3085, 0x3F6A844B, 0x3F6AD784, 0x3F6B2A2F, 0x3F6B7C4B, 0x3F6BCDD7, 0x3F6C1ED3, 0x3F6C6F3E,
  0x3F6CBF18, 0x3F6D0E60, 0x3F6D5D15, 0x3F6DAB37, 0x3F6DF8C6, 0x3F6E45C0, 0x3F6E9226, 0x3F6EDDF6,
  0x3F6F2930, 0x3F6F73D4, 0x3F6FBDE1, 0x3F700756, 0x3F705033, 0x3F709877, 0x3F70E022, 0x3F712733,
  0x3F716DAA, 0x3F71B386, 0x3F71F8C6, 0x3F723D6B, 0x3F728173, 0x3F72C4DF, 0x3F7307AD, 0x3F7349DD,
  0x3F738B6F, 0x3F73CC62, 0x3F740CB5, 0x3F744C69, 0x3F748B7C, 0x3F74C9EE, 0x3F7507BF, 0x3F7544EF,
  0x3F75817C, 0x3F75BD66, 0x3F75F8AE, 0x3F763351, 0x3F766D51, 0x3F76A6AD, 0x3F76DF63, 0x3F771774,
  0x3F774EE0, 0x3F7785A5, 0x3F77BBC4, 0x3F77F13B, 0x3F78260C, 0x3F785A34, 0x3F788DB4, 0x3F78C08C,
  0x3F78F2BB, 0x3F792441, 0x3F79551C, 0x3F79854E, 0x3F79B4D5, 0x3F79E3B2, 0x3F7A11E3, 0x3F7A3F69]

/-- Words of the window table `WIN` (R286), entries 960 to 1023. -/
def winPart15 : List Nat := [
  0x3F7A6C43, 0x3F7A9871, 0x3F7AC3F2, 0x3F7AEEC6, 0x3F7B18ED, 0x3F7B4267, 0x3F7B6B33, 0x3F7B9350,
  0x3F7BBABF, 0x3F7BE180, 0x3F7C0791, 0x3F7C2CF3, 0x3F7C51A6, 0x3F7C75A8, 0x3F7C98FA, 0x3F7CBB9C,
  0x3F7CDD8E, 0x3F7CFECE, 0x3F7D1F5D, 0x3F7D3F3A, 0x3F7D5E66, 0x3F7D7CE0, 0x3F7D9AA7, 0x3F7DB7BD,
  0x3F7DD41F, 0x3F7DEFCF, 0x3F7E0ACC, 0x3F7E2515, 0x3F7E3EAB, 0x3F7E578D, 0x3F7E6FBB, 0x3F7E8736,
  0x3F7E9DFC, 0x3F7EB40D, 0x3F7EC96A, 0x3F7EDE13, 0x3F7EF206, 0x3F7F0545, 0x3F7F17CE, 0x3F7F29A2,
  0x3F7F3AC0, 0x3F7F4B29, 0x3F7F5ADC, 0x3F7F69D9, 0x3F7F7820, 0x3F7F85B1, 0x3F7F928C, 0x3F7F9EB1,
  0x3F7FAA1F, 0x3F7FB4D7, 0x3F7FBED8, 0x3F7FC823, 0x3F7FD0B7, 0x3F7FD894, 0x3F7FDFBA, 0x3F7FE62A,
  0x3F7FEBE2, 0x3F7FF0E4, 0x3F7FF52E, 0x3F7FF8C2, 0x3F7FFB9E, 0x3F7FFDC4, 0x3F7FFF32, 0x3F7FFFE9]

/-- `WIN[0 .. FFT_N/2 - 1]` (R286). -/
def winHalf : List Nat :=
  winPart0 ++ winPart1 ++ winPart2 ++ winPart3 ++
  winPart4 ++ winPart5 ++ winPart6 ++ winPart7 ++
  winPart8 ++ winPart9 ++ winPart10 ++ winPart11 ++
  winPart12 ++ winPart13 ++ winPart14 ++ winPart15

/-- `WIN[0 .. FFT_N - 1]` (R286): the window is symmetric, `WIN[n]` = `WIN[FFT_N - 1 - n]`. -/
def win : List Word := (winHalf ++ winHalf.reverse).map (BitVec.ofNat 32)

/-- Words of the quarter wave sin(2π·i/FFT_N) behind `TW` (R288), entries 0 to 63. -/
def sinPart0 : List Nat := [
  0x00000000, 0x3B490FC6, 0x3BC90F88, 0x3C16CB58, 0x3C490E90, 0x3C7B514B, 0x3C96C9B6, 0x3CAFEA69,
  0x3CC90AB0, 0x3CE22A7A, 0x3CFB49BA, 0x3D0A342F, 0x3D16C32C, 0x3D2351CB, 0x3D2FE007, 0x3D3C6DD5,
  0x3D48FB30, 0x3D55880E, 0x3D621469, 0x3D6EA038, 0x3D7B2B74, 0x3D83DB0A, 0x3D8A200A, 0x3D9064B4,
  0x3D96A905, 0x3D9CECF9, 0x3DA3308C, 0x3DA973BA, 0x3DAFB680, 0x3DB5F8DA, 0x3DBC3AC3, 0x3DC27C39,
  0x3DC8BD36, 0x3DCEFDB7, 0x3DD53DB9, 0x3DDB7D37, 0x3DE1BC2E, 0x3DE7FA9A, 0x3DEE3876, 0x3DF475C0,
  0x3DFAB273, 0x3E007745, 0x3E039502, 0x3E06B26E, 0x3E09CF86, 0x3E0CEC4A, 0x3E1008B7, 0x3E1324CA,
  0x3E164083, 0x3E195BE0, 0x3E1C76DE, 0x3E1F917B, 0x3E22ABB6, 0x3E25C58C, 0x3E28DEFC, 0x3E2BF804,
  0x3E2F10A2, 0x3E3228D4, 0x3E354098, 0x3E3857EC, 0x3E3B6ECF, 0x3E3E853E, 0x3E419B37, 0x3E44B0B9]

/-- Words of the quarter wave sin(2π·i/FFT_N) behind `TW` (R288), entries 64 to 127. -/
def sinPart1 : List Nat := [
  0x3E47C5C2, 0x3E4ADA4F, 0x3E4DEE60, 0x3E5101F1, 0x3E541501, 0x3E57278F, 0x3E5A3997, 0x3E5D4B1A,
  0x3E605C13, 0x3E636C83, 0x3E667C66, 0x3E698BBA, 0x3E6C9A7F, 0x3E6FA8B2, 0x3E72B651, 0x3E75C35A,
  0x3E78CFCC, 0x3E7BDBA4, 0x3E7EE6E1, 0x3E80F8C0, 0x3E827DC0, 0x3E840270, 0x3E8586CE, 0x3E870ADA,
  0x3E888E93, 0x3E8A11F7, 0x3E8B9507, 0x3E8D17C0, 0x3E8E9A22, 0x3E901C2C, 0x3E919DDD, 0x3E931F35,
  0x3E94A031, 0x3E9620D2, 0x3E97A117, 0x3E9920FE, 0x3E9AA086, 0x3E9C1FAF, 0x3E9D9E78, 0x3E9F1CDF,
  0x3EA09AE5, 0x3EA21887, 0x3EA395C5, 0x3EA5129F, 0x3EA68F12, 0x3EA80B1F, 0x3EA986C4, 0x3EAB0201,
  0x3EAC7CD4, 0x3EADF73C, 0x3EAF713A, 0x3EB0EACB, 0x3EB263EF, 0x3EB3DCA5, 0x3EB554EC, 0x3EB6CCC3,
  0x3EB8442A, 0x3EB9BB1E, 0x3EBB31A0, 0x3EBCA7AF, 0x3EBE1D4A, 0x3EBF926F, 0x3EC1071E, 0x3EC27B55]

/-- Words of the quarter wave sin(2π·i/FFT_N) behind `TW` (R288), entries 128 to 191. -/
def sinPart2 : List Nat := [
  0x3EC3EF15, 0x3EC5625C, 0x3EC6D529, 0x3EC8477C, 0x3EC9B953, 0x3ECB2AAE, 0x3ECC9B8B, 0x3ECE0BEA,
  0x3ECF7BCA, 0x3ED0EB2A, 0x3ED25A09, 0x3ED3C867, 0x3ED53641, 0x3ED6A399, 0x3ED8106B, 0x3ED97CB9,
  0x3EDAE880, 0x3EDC53C1, 0x3EDDBE79, 0x3EDF28A9, 0x3EE0924F, 0x3EE1FB6A, 0x3EE363FA, 0x3EE4CBFE,
  0x3EE63375, 0x3EE79A5D, 0x3EE900B7, 0x3EEA6681, 0x3EEBCBBB, 0x3EED3063, 0x3EEE9479, 0x3EEFF7FB,
  0x3EF15AEA, 0x3EF2BD43, 0x3EF41F07, 0x3EF58035, 0x3EF6E0CB, 0x3EF840C8, 0x3EF9A02D, 0x3EFAFEF7,
  0x3EFC5D27, 0x3EFDBABB, 0x3EFF17B2, 0x3F003A06, 0x3F00E7E4, 0x3F019573, 0x3F0242B1, 0x3F02EF9F,
  0x3F039C3D, 0x3F044889, 0x3F04F484, 0x3F05A02C, 0x3F064B82, 0x3F06F686, 0x3F07A136, 0x3F084B92,
  0x3F08F59B, 0x3F099F4E, 0x3F0A48AD, 0x3F0AF1B7, 0x3F0B9A6B, 0x3F0C42C9, 0x3F0CEAD0, 0x3F0D9281]

/-- Words of the quarter wave sin(2π·i/FFT_N) behind `TW` (R288), entries 192 to 255. -/
def sinPart3 : List Nat := [
  0x3F0E39DA, 0x3F0EE0DB, 0x3F0F8784, 0x3F102DD5, 0x3F10D3CD, 0x3F11796B, 0x3F121EB0, 0x3F12C39A,
  0x3F13682A, 0x3F140C5F, 0x3F14B039, 0x3F1553B7, 0x3F15F6D9, 0x3F16999F, 0x3F173C07, 0x3F17DE12,
  0x3F187FC0, 0x3F19210F, 0x3F19C200, 0x3F1A6293, 0x3F1B02C6, 0x3F1BA299, 0x3F1C420C, 0x3F1CE11F,
  0x3F1D7FD1, 0x3F1E1E22, 0x3F1EBC12, 0x3F1F599F, 0x3F1FF6CB, 0x3F209393, 0x3F212FF9, 0x3F21CBFB,
  0x3F226799, 0x3F2302D3, 0x3F239DA9, 0x3F24381A, 0x3F24D225, 0x3F256BCB, 0x3F26050A, 0x3F269DE3,
  0x3F273656, 0x3F27CE61, 0x3F286605, 0x3F28FD41, 0x3F299415, 0x3F2A2A80, 0x3F2AC082, 0x3F2B561B,
  0x3F2BEB4A, 0x3F2C800F, 0x3F2D1469, 0x3F2DA859, 0x3F2E3BDE, 0x3F2ECEF7, 0x3F2F61A5, 0x3F2FF3E6,
  0x3F3085BB, 0x3F311722, 0x3F31A81D, 0x3F3238AA, 0x3F32C8C9, 0x3F33587A, 0x3F33E7BC, 0x3F34768F]

/-- Words of the quarter wave sin(2π·i/FFT_N) behind `TW` (R288), entries 256 to 319. -/
def sinPart4 : List Nat := [
  0x3F3504F3, 0x3F3592E7, 0x3F36206C, 0x3F36AD7F, 0x3F373A23, 0x3F37C655, 0x3F385216, 0x3F38DD65,
  0x3F396842, 0x3F39F2AC, 0x3F3A7CA4, 0x3F3B0629, 0x3F3B8F3B, 0x3F3C17D9, 0x3F3CA003, 0x3F3D27B8,
  0x3F3DAEF9, 0x3F3E35C5, 0x3F3EBC1B, 0x3F3F41FC, 0x3F3FC767, 0x3F404C5C, 0x3F40D0DA, 0x3F4154E1,
  0x3F41D870, 0x3F425B89, 0x3F42DE29, 0x3F436051, 0x3F43E200, 0x3F446337, 0x3F44E3F5, 0x3F456439,
  0x3F45E403, 0x3F466354, 0x3F46E22A, 0x3F476085, 0x3F47DE65, 0x3F485BCA, 0x3F48D8B3, 0x3F495521,
  0x3F49D112, 0x3F4A4C87, 0x3F4AC77F, 0x3F4B41FA, 0x3F4BBBF8, 0x3F4C3578, 0x3F4CAE79, 0x3F4D26FD,
  0x3F4D9F02, 0x3F4E1689, 0x3F4E8D90, 0x3F4F0417, 0x3F4F7A1F, 0x3F4FEFA8, 0x3F5064AF, 0x3F50D937,
  0x3F514D3D, 0x3F51C0C2, 0x3F5233C6, 0x3F52A649, 0x3F531849, 0x3F5389C7, 0x3F53FAC3, 0x3F546B3B]

/-- Words of the quarter wave sin(2π·i/FFT_N) behind `TW` (R288), entries 320 to 383. -/
def sinPart5 : List Nat := [
  0x3F54DB31, 0x3F554AA4, 0x3F55B993, 0x3F5627FE, 0x3F5695E5, 0x3F570348, 0x3F577026, 0x3F57DC7F,
  0x3F584853, 0x3F58B3A1, 0x3F591E6A, 0x3F5988AD, 0x3F59F26A, 0x3F5A5BA0, 0x3F5AC450, 0x3F5B2C79,
  0x3F5B941A, 0x3F5BFB34, 0x3F5C61C7, 0x3F5CC7D1, 0x3F5D2D53, 0x3F5D924D, 0x3F5DF6BE, 0x3F5E5AA6,
  0x3F5EBE05, 0x3F5F20DB, 0x3F5F8327, 0x3F5FE4E9, 0x3F604621, 0x3F60A6CF, 0x3F6106F2, 0x3F61668A,
  0x3F61C598, 0x3F62241A, 0x3F628210, 0x3F62DF7B, 0x3F633C5A, 0x3F6398AC, 0x3F63F473, 0x3F644FAC,
  0x3F64AA59, 0x3F650479, 0x3F655E0B, 0x3F65B710, 0x3F660F88, 0x3F666771, 0x3F66BECC, 0x3F671599,
  0x3F676BD8, 0x3F67C187, 0x3F6816A8, 0x3F686B39, 0x3F68BF3C, 0x3F6912AE, 0x3F696591, 0x3F69B7E4,
  0x3F6A09A7, 0x3F6A5AD9, 0x3F6AAB7B, 0x3F6AFB8C, 0x3F6B4B0C, 0x3F6B99FB, 0x3F6BE858, 0x3F6C3624]

/-- Words of the quarter wave sin(2π·i/FFT_N) behind `TW` (R288), entries 384 to 447. -/
def sinPart6 : List Nat := [
  0x3F6C835E, 0x3F6CD007, 0x3F6D1C1D, 0x3F6D67A1, 0x3F6DB293, 0x3F6DFCF2, 0x3F6E46BE, 0x3F6E8FF8,
  0x3F6ED89E, 0x3F6F20B0, 0x3F6F6830, 0x3F6FAF1B, 0x3F6FF573, 0x3F703B37, 0x3F708066, 0x3F70C501,
  0x3F710908, 0x3F714C7A, 0x3F718F57, 0x3F71D19F, 0x3F721352, 0x3F725470, 0x3F7294F8, 0x3F72D4EB,
  0x3F731447, 0x3F73530E, 0x3F73913F, 0x3F73CED9, 0x3F740BDD, 0x3F74484B, 0x3F748422, 0x3F74BF62,
  0x3F74FA0B, 0x3F75341D, 0x3F756D97, 0x3F75A67B, 0x3F75DEC6, 0x3F76167A, 0x3F764D97, 0x3F76841B,
  0x3F76BA07, 0x3F76EF5B, 0x3F772417, 0x3F77583A, 0x3F778BC5, 0x3F77BEB7, 0x3F77F110, 0x3F7822D1,
  0x3F7853F8, 0x3F788486, 0x3F78B47B, 0x3F78E3D6, 0x3F791298, 0x3F7940C0, 0x3F796E4E, 0x3F799B43,
  0x3F79C79D, 0x3F79F35E, 0x3F7A1E84, 0x3F7A4910, 0x3F7A7302, 0x3F7A9C59, 0x3F7AC516, 0x3F7AED37]

/-- Words of the quarter wave sin(2π·i/FFT_N) behind `TW` (R288), entries 448 to 511. -/
def sinPart7 : List Nat := [
  0x3F7B14BE, 0x3F7B3BAB, 0x3F7B61FC, 0x3F7B87B2, 0x3F7BACCD, 0x3F7BD14D, 0x3F7BF531, 0x3F7C187A,
  0x3F7C3B28, 0x3F7C5D3A, 0x3F7C7EB0, 0x3F7C9F8A, 0x3F7CBFC9, 0x3F7CDF6C, 0x3F7CFE73, 0x3F7D1CDD,
  0x3F7D3AAC, 0x3F7D57DE, 0x3F7D7474, 0x3F7D906E, 0x3F7DABCC, 0x3F7DC68C, 0x3F7DE0B1, 0x3F7DFA38,
  0x3F7E1324, 0x3F7E2B72, 0x3F7E4323, 0x3F7E5A38, 0x3F7E70B0, 0x3F7E868B, 0x3F7E9BC9, 0x3F7EB069,
  0x3F7EC46D, 0x3F7ED7D4, 0x3F7EEA9D, 0x3F7EFCC9, 0x3F7F0E58, 0x3F7F1F49, 0x3F7F2F9D, 0x3F7F3F54,
  0x3F7F4E6D, 0x3F7F5CE9, 0x3F7F6AC7, 0x3F7F7808, 0x3F7F84AB, 0x3F7F90B1, 0x3F7F9C18, 0x3F7FA6E3,
  0x3F7FB10F, 0x3F7FBA9E, 0x3F7FC38F, 0x3F7FCBE2, 0x3F7FD397, 0x3F7FDAAF, 0x3F7FE129, 0x3F7FE705,
  0x3F7FEC43, 0x3F7FF0E3, 0x3F7FF4E6, 0x3F7FF84A, 0x3F7FFB11, 0x3F7FFD39, 0x3F7FFEC4, 0x3F7FFFB1]

/-- Words of the quarter wave sin(2π·i/FFT_N) behind `TW` (R288), entries 512 to 512. -/
def sinPart8 : List Nat := [
  0x3F800000]

/-- The quarter wave: the `F32` nearest to sin(2π·i/FFT_N) for i from 0 to FFT_N/4 (R288). -/
def quarterWave : List Nat :=
  sinPart0 ++ sinPart1 ++ sinPart2 ++ sinPart3 ++ sinPart4 ++ sinPart5 ++ sinPart6 ++ sinPart7 ++ sinPart8

/-- Entry `i` of the quarter wave, with the given sign bit. -/
def quarterWaveAt (neg : Bool) (i : Nat) : Word :=
  BitVec.ofNat 32 ((if neg then 2 ^ 31 else 0) + quarterWave.getD i 0)

/-- `TW[t]` (R288), t from 0 to FFT_N/2 - 1: (cos(2π·t/FFT_N), -sin(2π·t/FFT_N)). -/
def twiddle (t : Nat) : Cpx :=
  if t ≤ 512 then ⟨quarterWaveAt false (512 - t), quarterWaveAt true t⟩
  else ⟨quarterWaveAt true (t - 512), quarterWaveAt true (1024 - t)⟩

/-- The default of every parameter of R9. -/
def defaultConfig : Config where
  log2N := 11
  log2Cap := 5
  wMax := 4096
  fsMin := 0x45FA0000#32
  fsMax := 0x493B8000#32
  win := win
  tw := (List.range 1024).map twiddle
  fft := .standard
  colRange := .ideal

end Sys2Proof.Machine
end

