-- ==== Sys2Proof/Machine/State.lean ====
section
/-! DEFINITION. The architectural state as plain data (R30 to R76, R84), the events that drive it (R7, R19), its value
at power-on, and the reasons a step can stop. -/

namespace Sys2Proof.Machine

/-- The two audio channels (R2): left is channel 0, right is channel 1. -/
inductive Channel where
  | left | right
  deriving DecidableEq, Repr

/-- One value per channel. -/
structure Pair (α : Type) where
  left : α
  right : α
  deriving DecidableEq, Repr

/-- One cell of a memory: the index of a word and its value (R90). -/
abbrev Cell := Nat × Word

/-- A word-indexed memory (R11, R90) in canonical form: indices strictly rising, an unlisted index holds no value yet
(R84 "unspecified", R85; log 10). -/
abbrev Memory := List Cell

/-- The four memories whose power-on contents are unspecified (R84). -/
inductive MemoryName where
  /-- `slot[c][j][i]`, the FIFO ring (R60); index `j * BLK_MAX + i`. -/
  | slot
  /-- `pop_buf[c][i]` (R65). -/
  | popBuf
  /-- `db[c][k]` (R72). -/
  | db
  /-- `pbuf[c][b][x]` (R74); index `b * 2^16 + x`. -/
  | pbuf
  deriving DecidableEq, Repr

/-- A coefficient block (R50): b0, b1, b2, a1, a2, with a0 = 1. The staging registers `CST[0..4]` are one (R31). -/
structure Coef where
  b0 : Word
  b1 : Word
  b2 : Word
  a1 : Word
  a2 : Word
  deriving DecidableEq, Repr

/-- `IDENT` (R18): the identity coefficient block. -/
def Coef.ident : Coef := ⟨0x3F800000#32, 0#32, 0#32, 0#32, 0#32⟩

/-- The two banks of a stage (R51). -/
structure Banks where
  bank0 : Coef
  bank1 : Coef
  deriving DecidableEq, Repr

/-- One channel's part of a configuration record (R52). The peak stage has no stage bypass bit. -/
structure ChanCfg where
  /-- `sel[c][s]`: the bank stage `s` uses. -/
  sel : Vector Bool 9
  /-- `byp[c][0..3]`: the low-cut stages' bypass bits. -/
  lcByp : Vector Bool 4
  /-- `byp[c][5..8]`: the high-cut stages' bypass bits. -/
  hcByp : Vector Bool 4
  /-- `posbyp[c][p]`. -/
  posByp : Vector Bool 3
  deriving DecidableEq, Repr

/-- A configuration record `Cfg` (R52), 41 bits. -/
structure Cfg where
  chans : Pair ChanCfg
  anEn : Bool
  deriving DecidableEq, Repr

/-- Settings registers 0 to 12 (R40 to R46). -/
structure Settings where
  sPkFreq : Word
  sPkGain : Word
  sPkQ : Word
  sLcFreq : Word
  sHcFreq : Word
  sLcSlope : BitVec 2
  sHcSlope : BitVec 2
  sBypass : BitVec 3
  sAnen : BitVec 1
  aFloor : Word
  dW : BitVec 16
  dYtop : Word
  dYbot : Word
  deriving DecidableEq, Repr

/-- The state of one channel: filter banks and delay words, FIFO, pop, analyzer and path queue (R51 to R76). -/
structure Chan where
  /-- `bank[c][s][b]` (R51). -/
  banks : Vector Banks 9
  /-- `z1[c][s]` (R55). -/
  z1 : Vector Word 9
  /-- `z2[c][s]` (R55). -/
  z2 : Vector Word 9
  /-- `smp_cnt[c]` (R58). -/
  smpCnt : BitVec 16
  /-- `slot[c]` (R60). -/
  slot : Memory
  /-- `wr_idx[c]` (R61). -/
  wrIdx : Word
  /-- `wr_snap[c]` (R63). -/
  wrSnap : Word
  /-- `rd_idx[c]` (R62). -/
  rdIdx : Word
  /-- `s_req[c]` (R64). -/
  sReq : Bool
  /-- `s_req_a[c]` (R64). -/
  sReqA : Bool
  /-- `s_ack[c]` (R64). -/
  sAck : Bool
  /-- `s_ack_n[c]` (R64). -/
  sAckN : Bool
  /-- `pop_active[c]` (R65). -/
  popActive : Bool
  /-- `pop_cnt[c]` (R65). -/
  popCnt : BitVec 16
  /-- `snap_post[c]` (R65). -/
  snapPost : Bool
  /-- `pop_valid[c]` (R65). -/
  popValid : Bool
  /-- `pop_buf[c]` (R65). -/
  popBuf : Memory
  /-- `roll[c]` (R70): FFT_N words, oldest first. -/
  roll : List Word
  /-- `new_audio[c]` (R73). -/
  newAudio : Bool
  /-- `db_valid[c]` (R72). -/
  dbValid : Bool
  /-- `db[c]` (R72). -/
  db : Memory
  /-- `path_ready[c]` (R76). -/
  pathReady : Bool
  /-- `p_new[c]` (R76). -/
  pNew : Bool
  /-- `held_valid[c]` (R76). -/
  heldValid : Bool
  /-- `pbuf[c]` (R74). -/
  pbuf : Memory
  /-- `plen[c][b]` (R74). -/
  plen : Vector (BitVec 16) 3
  /-- `p_back[c]` (R75). -/
  pBack : Fin 3
  /-- `p_front[c]` (R75). -/
  pFront : Fin 3
  /-- `p_held[c]` (R75). -/
  pHeld : Fin 3
  deriving DecidableEq, Repr

/-- The status codes (R361). -/
inductive Status where
  | ok | busy | empty | overrun | notPrep | seq | operand | range | stale | disabled | illegal
  deriving DecidableEq, Repr

/-- The answer to a command (R19, R120): its status and its `rdata`. -/
structure Answer where
  status : Status
  rdata : Word
  deriving DecidableEq, Repr

/-- What can happen to the block at one point of the interleaving (R7, R19, R97, R390; log 1). -/
inductive Event where
  /-- A command presented on a port (R19). -/
  | command (port : Port) (cmd wdata : Word)
  /-- `SYN_CREQ` (R193). -/
  | synCreq
  /-- `SYN_CACK` (R193). -/
  | synCack
  /-- `SYN_SREQ(c)` (R243). -/
  | synSreq (c : Channel)
  /-- `SYN_SACK(c)` (R243). -/
  | synSack (c : Channel)
  /-- `SNP(c)` (R244). -/
  | snp (c : Channel)
  /-- Power-on reset (R84, R390; log 13). -/
  | powerOn
  deriving DecidableEq, Repr

/-- The machine (R30). -/
structure State where
  /-- The model's own: the events to come, in the order of the interleaving (R7, R96; log 1). -/
  inputs : List Event
  /-- The model's own: the answer to the latest command (R19; log 2). -/
  answer : Option Answer
  /-- The model's own: the number of the next NaN draw (R16; log 3). -/
  draws : Nat
  /-- The model's own: the configuration, which no step changes (R9, R80; log 6). -/
  config : Config
  /-- `CST[0..4]` (R31). -/
  cst : Coef
  /-- Settings registers 0 to 12 (R40). -/
  settings : Settings
  /-- `R_FS` (R48). -/
  rFs : Word
  /-- `R_BLK` (R48). -/
  rBlk : BitVec 16
  /-- `prepared` (R49). -/
  prepared : Bool
  /-- `cfg_sh` (R53). -/
  cfgSh : Cfg
  /-- `cfg_posted` (R53). -/
  cfgPosted : Cfg
  /-- `cfg_act` (R53). -/
  cfgAct : Cfg
  /-- `c_req` (R57). -/
  cReq : Bool
  /-- `c_req_a` (R57). -/
  cReqA : Bool
  /-- `c_ack` (R57). -/
  cAck : Bool
  /-- `c_ack_c` (R57). -/
  cAckC : Bool
  /-- `in_block` (R58). -/
  inBlock : Bool
  /-- `push_en` (R58). -/
  pushEn : Bool
  /-- The per-channel state. -/
  chans : Pair Chan
  deriving DecidableEq, Repr

/-- The faults of the model; each stops the machine. -/
inductive Fault where
  /-- Raised by FRD, ACCUM, RDBIN, MAP and PRD when they read a word of a memory that nothing has written since
  power-on (R85, U8). Safe: the model stops where the hardware would return some word; no reachable state raises it. -/
  | unspecifiedRead (memory : MemoryName)
  deriving DecidableEq, Repr

/-- The refusals of the model. -/
inductive Refusal where
  /-- An instruction that has no meaning yet, by its mnemonic. Safe: the model stops. No arm of `exec` uses it. -/
  | notModelled (mnemonic : String)
  deriving DecidableEq, Repr

/-- The outcome of a step or of a command. -/
abbrev Result := Host.Outcome State Fault Refusal

/-- The settings at power-on (R40, R84). -/
def Settings.reset : Settings where
  sPkFreq := 0x447A0000#32
  sPkGain := 0x00000000#32
  sPkQ := 0x3F800000#32
  sLcFreq := 0x41A00000#32
  sHcFreq := 0x469C4000#32
  sLcSlope := 0#2
  sHcSlope := 0#2
  sBypass := 0#3
  sAnen := 0#1
  aFloor := 0xC2400000#32
  dW := 512#16
  dYtop := 0x00000000#32
  dYbot := 0x3F800000#32

/-- One channel of a configuration record at power-on (R84): `sel` 0, every cut stage bypassed, no position bypassed. -/
def ChanCfg.reset : ChanCfg where
  sel := .replicate 9 false
  lcByp := .replicate 4 true
  hcByp := .replicate 4 true
  posByp := .replicate 3 false

/-- A configuration record at power-on (R84). -/
def Cfg.reset : Cfg := ⟨⟨.reset, .reset⟩, false⟩

/-- One channel at power-on (R84), for a rolling buffer of `fftN` words. -/
def Chan.reset (fftN : Nat) : Chan where
  banks := .replicate 9 ⟨.ident, .ident⟩
  z1 := .replicate 9 0#32
  z2 := .replicate 9 0#32
  smpCnt := 0#16
  slot := []
  wrIdx := 0#32
  wrSnap := 0#32
  rdIdx := 0#32
  sReq := false
  sReqA := false
  sAck := false
  sAckN := false
  popActive := false
  popCnt := 0#16
  snapPost := false
  popValid := false
  popBuf := []
  roll := .replicate fftN 0#32
  newAudio := false
  dbValid := false
  db := []
  pathReady := false
  pNew := false
  heldValid := false
  pbuf := []
  plen := .replicate 3 0#16
  pBack := 0
  pFront := 1
  pHeld := 2

/-- A machine of configuration `κ` right after power-on (R84, R390), with nothing presented to it (log 1). -/
def State.initial (κ : Config) : State where
  inputs := []
  answer := none
  draws := 0
  config := κ
  cst := .ident
  settings := .reset
  rFs := 0x00000000#32
  rBlk := 0#16
  prepared := false
  cfgSh := .reset
  cfgPosted := .reset
  cfgAct := .reset
  cReq := false
  cReqA := false
  cAck := false
  cAckC := false
  inBlock := false
  pushEn := false
  chans := ⟨.reset κ.fftN, .reset κ.fftN⟩

/-- The machine of the default configuration right after power-on (R9, R84, R390). -/
def State.reset : State := State.initial defaultConfig

end Sys2Proof.Machine
end

