-- ==== Sys2Proof/Machine/Ops.lean ====
section
/-! DEFINITION. The named operations over memories, channels, coefficient blocks and answers, and the reset effect
that PREPARE and RESET share (R12, R19, R336, R360). The block has no traps: reporting a status (`answered`, `refuse`,
`require`) is its one form of exception (R360, R361). -/

namespace Sys2Proof.Machine

/-! ### Memories (R90) -/

/-- The canonical form of a memory: indices strictly rising. -/
def Memory.wf : Memory → Bool
  | [] => true
  | [_] => true
  | a :: b :: m => decide (a.1 < b.1) && Memory.wf (b :: m)

/-- `MemRead` of one word (R12); none when nothing has written it (R85). -/
def Memory.read : Memory → Nat → Option Word
  | [], _ => none
  | (a, v) :: m, i => if i = a then some v else if i < a then none else Memory.read m i

/-- `MemWrite` of one word (R12). -/
def Memory.write : Memory → Nat → Word → Memory
  | [], i, w => [(i, w)]
  | (a, v) :: m, i, w =>
    if i < a then (i, w) :: (a, v) :: m else if i = a then (a, w) :: m else (a, v) :: Memory.write m i w

/-- The words at the `n` indices from `i` on; none when one of them was never written. -/
def Memory.readRange (m : Memory) (i : Nat) : Nat → Option (List Word)
  | 0 => some []
  | n + 1 =>
    match Memory.read m i, Memory.readRange m (i + 1) n with
    | some w, some ws => some (w :: ws)
    | _, _ => none

/-- Writes the given words at consecutive indices from `i` on, in order. -/
def Memory.writeFrom (m : Memory) (i : Nat) : List Word → Memory
  | [] => m
  | w :: ws => Memory.writeFrom (Memory.write m i w) (i + 1) ws

/-! ### Channels -/

/-- The channel's value. -/
def Pair.get {α : Type} (p : Pair α) : Channel → α
  | .left => p.left
  | .right => p.right

/-- Replaces the channel's value. -/
def Pair.set {α : Type} (p : Pair α) (c : Channel) (a : α) : Pair α :=
  match c with
  | .left => { p with left := a }
  | .right => { p with right := a }

/-- Applies a function to both channels. -/
def Pair.map {α β : Type} (f : α → β) (p : Pair α) : Pair β := ⟨f p.left, f p.right⟩

/-- The state of channel `c`. -/
def State.chan (s : State) (c : Channel) : Chan := s.chans.get c

/-- Replaces the state of channel `c`. -/
def State.setChan (s : State) (c : Channel) (k : Chan) : State := { s with chans := s.chans.set c k }

/-- The words of a memory of channel `c`, by name (R90). -/
def State.memory (s : State) (c : Channel) : MemoryName → Memory
  | .slot => (s.chan c).slot
  | .popBuf => (s.chan c).popBuf
  | .db => (s.chan c).db
  | .pbuf => (s.chan c).pbuf

/-- Reads one word of a named memory (R12, R90); none when nothing has written it. -/
def State.peek (s : State) (m : MemoryName) (c : Channel) (i : Nat) : Option Word := Memory.read (s.memory c m) i

/-! ### Coefficient blocks (R31, R50) -/

/-- Word `k` of a coefficient block (R50). -/
def Coef.get (b : Coef) (k : Fin 5) : Word :=
  match k with
  | 0 => b.b0
  | 1 => b.b1
  | 2 => b.b2
  | 3 => b.a1
  | 4 => b.a2

/-- Replaces word `k` of a coefficient block (R50). -/
def Coef.set (b : Coef) (k : Fin 5) (w : Word) : Coef :=
  match k with
  | 0 => { b with b0 := w }
  | 1 => { b with b1 := w }
  | 2 => { b with b2 := w }
  | 3 => { b with a1 := w }
  | 4 => { b with a2 := w }

/-- The block of bank `b` (R51). -/
def Banks.get (k : Banks) (b : Bool) : Coef := if b then k.bank1 else k.bank0

/-- Replaces the block of bank `b` (R51). -/
def Banks.set (k : Banks) (b : Bool) (c : Coef) : Banks := if b then { k with bank1 := c } else { k with bank0 := c }

/-- `bank[c][s][b]` of this channel (R51). -/
def Chan.bank (k : Chan) (s : Fin 9) (b : Bool) : Coef := (k.banks.get s).get b

/-- Writes the five words of `bank[c][s][b]` of this channel (R51, R186). -/
def Chan.setBank (k : Chan) (s : Fin 9) (b : Bool) (v : Coef) : Chan :=
  { k with banks := k.banks.set s ((k.banks.get s).set b v) }

/-! ### Answers (R19, R360, R361) -/

/-- The 4-bit code of a status (R361). -/
def Status.code : Status → BitVec 4
  | .ok => 0#4
  | .busy => 1#4
  | .empty => 2#4
  | .overrun => 3#4
  | .notPrep => 4#4
  | .seq => 5#4
  | .operand => 6#4
  | .range => 7#4
  | .stale => 8#4
  | .disabled => 9#4
  | .illegal => 15#4

/-- The state with the answer of the command in its lanes (R19). -/
def State.answered (s : State) (st : Status) (rdata : Word) : State := { s with answer := some ⟨st, rdata⟩ }

/-- `return ST_OK` (R12); `rdata` is 0 (R19). -/
def done (s : State) : Result := .next (s.answered .ok 0#32)

/-- `return ST_OK, rdata = w` (R12). -/
def doneWith (s : State) (w : Word) : Result := .next (s.answered .ok w)

/-- `return ST_x` with no state change (R12, R362); `rdata` is 0 (R19). -/
def refuse (s : State) (st : Status) : Result := .next (s.answered st 0#32)

/-- `return ST_OVERRUN, rdata = w` (R362): the one status other than ST_OK that reports a changed state. -/
def overrun (s : State) (w : Word) : Result := .next (s.answered .overrun w)

/-- `require c else ST_x` (R12): if the condition is false, the command ends with that status and no state change. -/
def require (cond : Bool) (st : Status) (s : State) (body : Result) : Result := if cond then body else refuse s st

/-- The word read, or the fault of an unwritten word (R85). -/
def withWord (m : MemoryName) (r : Option Word) (body : Word → Result) : Result :=
  match r with
  | none => .fault (.unspecifiedRead m)
  | some w => body w

/-- The words read, or the fault of an unwritten word (R85). -/
def withWords (m : MemoryName) (r : Option (List Word)) (body : List Word → Result) : Result :=
  match r with
  | none => .fault (.unspecifiedRead m)
  | some ws => body ws

/-- The answer to a word that is no command of its port (R126, R128): ST_ILLEGAL, no state change. -/
def illegalCommand (s : State) : Result := refuse s .illegal

/-! ### The free values of R16 -/

/-- The raw NaN draw for place `site` of the current step (R16, log 3). -/
def State.nan (s : State) (site : Nat) : Word := Config.nanDraw s.draws site

/-! ### Reset (R336) -/

/-- The per-channel part of `reset_runtime()` (R336), for a rolling buffer of `fftN` words. -/
def Chan.resetRuntime (fftN : Nat) (k : Chan) : Chan :=
  { k with
    z1 := .replicate 9 0#32, z2 := .replicate 9 0#32, smpCnt := 0#16
    wrIdx := 0#32, wrSnap := 0#32, rdIdx := 0#32
    sReq := false, sReqA := false, sAck := false, sAckN := false
    popActive := false, popCnt := 0#16, snapPost := false, popValid := false
    roll := .replicate fftN 0#32
    newAudio := false, dbValid := false, pathReady := false, pNew := false, heldValid := false
    pBack := 0, pFront := 1, pHeld := 2 }

/-- `reset_runtime()` (R336, the RESET column of R84): adopts a pending commit and clears all signal state. -/
def State.resetRuntime (s : State) : State :=
  { s with
    cfgAct := s.cfgPosted
    cReq := false, cReqA := false, cAck := false, cAckC := false
    inBlock := false, pushEn := false
    chans := s.chans.map (Chan.resetRuntime s.config.fftN) }

end Sys2Proof.Machine
end

