-- ==== Sys2Proof/Machine/Operands.lean ====
section
/-! DEFINITION. The operands: channels, stages, chain positions and small indices out of a command's fields (R123,
R124, R370), the legal sets of the settings registers (R40, R338), and the parts of a configuration record (R52). -/

namespace Sys2Proof.Machine

/-- The channel a `ch` field names; none for 2 to 15 (R124). -/
def channelOf (ch : BitVec 4) : Option Channel :=
  match ch.toNat with
  | 0 => some .left
  | 1 => some .right
  | _ => none

/-- The stage an `idx` field names; none for 9 to 15 (R124). -/
def stageOf (idx : BitVec 4) : Option (Fin 9) := if h : idx.toNat < 9 then some ⟨idx.toNat, h⟩ else none

/-- The chain position an `idx` field names; none for 3 to 15 (R20, R124). -/
def positionOf (idx : BitVec 4) : Option (Fin 3) := if h : idx.toNat < 3 then some ⟨idx.toNat, h⟩ else none

/-- The two cut filters (R20): a cut stage is a stage of LC or HC. -/
inductive Cut where
  | lc | hc
  deriving DecidableEq, Repr

/-- The cut filter an `idx` field names: 0 is LC, 2 is HC; none for PK and 3 to 15 (R124). -/
def cutOf (idx : BitVec 4) : Option Cut :=
  match idx.toNat with
  | 0 => some .lc
  | 2 => some .hc
  | _ => none

/-- The word of a coefficient block that a number names; none above 4 (R123, R124). -/
def coefWordOf (k : Nat) : Option (Fin 5) := if h : k < 5 then some ⟨k, h⟩ else none

/-- Stage `base + i` of section `i` of a cut filter (R20): 0..3 for LC, 5..8 for HC. -/
def Cut.stage (cut : Cut) (i : Fin 4) : Fin 9 :=
  match cut with
  | .lc => ⟨i.val, by omega⟩
  | .hc => ⟨5 + i.val, by omega⟩

/-- The stages of a chain position in processing order (R20, R212): LC 0..3, PK 4, HC 5..8. -/
def stagesOf (p : Fin 3) : List (Fin 9) :=
  match p with
  | 0 => [0, 1, 2, 3]
  | 1 => [4]
  | 2 => [5, 6, 7, 8]

/-- Runs a command's body on the channel its `ch` field names, or answers ST_OPERAND (R370). -/
def withChannel (ch : BitVec 4) (s : State) (body : Channel → Result) : Result :=
  match channelOf ch with
  | none => refuse s .operand
  | some c => body c

/-- Runs a command's body on the stage its `idx` field names, or answers ST_OPERAND (R370). -/
def withStage (idx : BitVec 4) (s : State) (body : Fin 9 → Result) : Result :=
  match stageOf idx with
  | none => refuse s .operand
  | some t => body t

/-- Runs a command's body on the chain position its `idx` field names, or answers ST_OPERAND (R370). -/
def withPosition (idx : BitVec 4) (s : State) (body : Fin 3 → Result) : Result :=
  match positionOf idx with
  | none => refuse s .operand
  | some p => body p

/-- Runs a command's body on the cut filter its `idx` field names, or answers ST_OPERAND (R370). -/
def withCut (idx : BitVec 4) (s : State) (body : Cut → Result) : Result :=
  match cutOf idx with
  | none => refuse s .operand
  | some cut => body cut

/-- Runs a command's body on the coefficient word a number names, or answers ST_OPERAND (R370). -/
def withCoefWord (k : Nat) (s : State) (body : Fin 5 → Result) : Result :=
  match coefWordOf k with
  | none => refuse s .operand
  | some k => body k

/-! ### Configuration records (R52) -/

/-- The bypass bit of section `i` of a cut filter (R52). -/
def ChanCfg.cutByp (k : ChanCfg) : Cut → Vector Bool 4
  | .lc => k.lcByp
  | .hc => k.hcByp

/-- Replaces the four stage bypass bits of a cut filter (R188). -/
def ChanCfg.setCutByp (k : ChanCfg) (cut : Cut) (v : Vector Bool 4) : ChanCfg :=
  match cut with
  | .lc => { k with lcByp := v }
  | .hc => { k with hcByp := v }

/-- `byp(c, s)` (R52): the stage bypass bit, 0 for the peak stage. -/
def ChanCfg.stageByp (k : ChanCfg) (s : Fin 9) : Bool :=
  if h : s.val < 4 then k.lcByp.get ⟨s.val, h⟩
  else if s.val = 4 then false
  else k.hcByp.get ⟨s.val - 5, by omega⟩

/-- One channel's part of a configuration record. -/
def Cfg.chan (g : Cfg) (c : Channel) : ChanCfg := g.chans.get c

/-- Replaces one channel's part of a configuration record. -/
def Cfg.setChan (g : Cfg) (c : Channel) (k : ChanCfg) : Cfg := { g with chans := g.chans.set c k }

/-! ### Settings registers (R40, R338) -/

/-- `isFinite(w) and fgt(w, +0.0)` (R338). -/
def finitePositive (w : Word) : Bool := F32.isFinite w && F32.fgt w F32.zero

/-- `legal(idx, w)` (R338); `D_W` is a `U16` (R40), so that its bits 31:16 are zero whatever W_MAX. The value at 13 and
above is of no use: WRS refuses those registers first. -/
def legalSetting (κ : Config) (idx : BitVec 4) (w : Word) : Bool :=
  match idx.toNat with
  | 0 => finitePositive w
  | 1 => F32.isFinite w
  | 2 => finitePositive w
  | 3 => finitePositive w
  | 4 => finitePositive w
  | 5 => decide (w.toNat ≤ 3)
  | 6 => decide (w.toNat ≤ 3)
  | 7 => decide (w.toNat ≤ 7)
  | 8 => decide (w.toNat ≤ 1)
  | 9 => F32.isFinite w && F32.flt w F32.zero
  | 10 => decide (2 ≤ w.toNat) && decide (w.toNat ≤ κ.wMax) && decide (w.toNat < 2 ^ 16)
  | 11 => F32.isFinite w
  | 12 => F32.isFinite w
  | _ => false

/-- Writes settings register `idx` (R40, R338); the other registers are not written. -/
def Settings.write (r : Settings) (idx : BitVec 4) (w : Word) : Settings :=
  match idx.toNat with
  | 0 => { r with sPkFreq := w }
  | 1 => { r with sPkGain := w }
  | 2 => { r with sPkQ := w }
  | 3 => { r with sLcFreq := w }
  | 4 => { r with sHcFreq := w }
  | 5 => { r with sLcSlope := w.setWidth 2 }
  | 6 => { r with sHcSlope := w.setWidth 2 }
  | 7 => { r with sBypass := w.setWidth 3 }
  | 8 => { r with sAnen := w.setWidth 1 }
  | 9 => { r with aFloor := w }
  | 10 => { r with dW := w.setWidth 16 }
  | 11 => { r with dYtop := w }
  | 12 => { r with dYbot := w }
  | _ => r

end Sys2Proof.Machine
end

