-- ==== Sys2Proof/Machine/Flags.lean ====
section
/-! DEFINITION. The derived flags and the packed status words: pending handshakes and fresh stages (R54, R57, R64),
quiescence (R333), `R_STAT` (R47), the packed configuration (R56) and the register read of RDS (R339). -/

namespace Sys2Proof.Machine

/-- `pending_c` (R54, R57): a commit is pending as CTL sees it. -/
def State.commitPending (s : State) : Bool := s.cReq != s.cAckC

/-- A snapshot of the channel is pending (R64): its handshake is not idle. -/
def Chan.snapPending (k : Chan) : Bool := k.sReq != k.sAckN

/-- The block is quiescent (R26, R333): no block open and no pop open. -/
def State.quiescent (s : State) : Bool := !s.inBlock && !s.chans.left.popActive && !s.chans.right.popActive

/-- `freebank(c, s)` (R54): the bank the posted configuration does not select. -/
def State.freeBank (s : State) (c : Channel) (t : Fin 9) : Bool := !(s.cfgPosted.chan c).sel.get t

/-- `fresh(c, s)` (R54): the shadow and the posted bank selects differ. -/
def State.fresh (s : State) (c : Channel) (t : Fin 9) : Bool :=
  (s.cfgSh.chan c).sel.get t != (s.cfgPosted.chan c).sel.get t

/-- Bit 0 of `S_ANEN` (R44). -/
def State.analyzerOn (s : State) : Bool := s.settings.sAnen == 1#1

/-- The 18 flag bits of `R_STAT`, bit 0 first (R47). -/
def State.statBits (s : State) : List Bool :=
  let l := s.chans.left
  let r := s.chans.right
  [s.prepared, s.commitPending, l.snapPending, r.snapPending, l.newAudio, r.newAudio, l.dbValid, r.dbValid,
   l.pathReady, r.pathReady, l.pNew, r.pNew, l.heldValid, r.heldValid, l.popActive, r.popActive, l.popValid,
   r.popValid]

/-- `R_STAT` (R47): the flags in bits 17:0, zeros in 23:18, CORE_ID in 31:24. -/
def State.rStat (s : State) : Word := BitVec.ofNat 32 (ofBits s.statBits + Config.coreId * 2 ^ 24)

/-- The packed form of one channel's configuration (R56): `sel` in 8:0, `byp` in 16:9, `posbyp` in 19:17, `an_en` in
bit 20. -/
def Cfg.packed (g : Cfg) (c : Channel) : Word :=
  let k := g.chan c
  BitVec.ofNat 32 (ofBits (k.sel.toList ++ k.lcByp.toList ++ k.hcByp.toList ++ k.posByp.toList ++ [g.anEn]))

/-- `reg[idx]` as a word, with `R_STAT` computed (R40, R339, R346). -/
def State.readSetting (s : State) (idx : BitVec 4) : Word :=
  match idx.toNat with
  | 0 => s.settings.sPkFreq
  | 1 => s.settings.sPkGain
  | 2 => s.settings.sPkQ
  | 3 => s.settings.sLcFreq
  | 4 => s.settings.sHcFreq
  | 5 => s.settings.sLcSlope.setWidth 32
  | 6 => s.settings.sHcSlope.setWidth 32
  | 7 => s.settings.sBypass.setWidth 32
  | 8 => s.settings.sAnen.setWidth 32
  | 9 => s.settings.aFloor
  | 10 => s.settings.dW.setWidth 32
  | 11 => s.settings.dYtop
  | 12 => s.settings.dYbot
  | 13 => s.rFs
  | 14 => s.rBlk.setWidth 32
  | _ => s.rStat

/-- Blocks between the last snapshot and the read index, modulo 2^32 (R13, R250). -/
def Chan.unread (k : Chan) : Word := k.wrSnap - k.rdIdx

/-- `FIFO_CAP - 1` (R259): the usable capacity, in blocks. -/
def usableBlocks (κ : Config) : Word := BitVec.ofNat 32 (κ.fifoCap - 1)

/-- The read index of the oldest block that a snapshot certifies as intact (R251, R253, R259). -/
def Chan.skipTarget (κ : Config) (k : Chan) : Word := k.wrSnap - usableBlocks κ

/-- The index of word `i` of slot `idx mod FIFO_CAP` in the ring memory (R13, R60). -/
def slotIndex (κ : Config) (idx : Word) (i : Nat) : Nat := (idx.toNat % κ.fifoCap) * κ.blkMax + i

/-- The index of word `x` of path buffer `b` (R74): `x` is below 2^16, since `D_W` and `plen` are 16 bits wide. -/
def pathIndex (b : Fin 3) (x : Nat) : Nat := b.val * 2 ^ 16 + x

/-- The state is settled (R28): no handshake pending, no block open, no pop open. -/
def State.settled (s : State) : Bool :=
  s.cReq == s.cReqA && s.cReqA == s.cAck && s.cAck == s.cAckC && s.quiescent
    && [s.chans.left, s.chans.right].all fun k => k.sReq == k.sReqA && k.sReqA == k.sAck && k.sAck == k.sAckN

end Sys2Proof.Machine
end

