-- ==== Sys2Proof/Machine/Agents.lean ====
section
/-! DEFINITION. The autonomous agents SYN and SNP (R97, R193, R243, R244), power-on (R84, R390), and the taking of an
event off the interleaving. -/

namespace Sys2Proof.Machine

/-- `SYN_CREQ` (R193): `c_req_a <- c_req`. -/
def synCreq (s : State) : State := { s with cReqA := s.cReq }

/-- `SYN_CACK` (R193): `c_ack_c <- c_ack`. -/
def synCack (s : State) : State := { s with cAckC := s.cAck }

/-- `SYN_SREQ(c)` (R243): `s_req_a[c] <- s_req[c]`. -/
def synSreq (c : Channel) (s : State) : State :=
  let k := s.chan c
  s.setChan c { k with sReqA := k.sReq }

/-- `SYN_SACK(c)` (R243): `s_ack_n[c] <- s_ack[c]`. -/
def synSack (c : Channel) (s : State) : State :=
  let k := s.chan c
  s.setChan c { k with sAckN := k.sAck }

/-- `SNP(c)` (R244): enabled when the request it sees differs from its acknowledge; nothing happens otherwise
(log 12). -/
def snp (c : Channel) (s : State) : State :=
  let k := s.chan c
  if k.sReqA != k.sAck then s.setChan c { k with wrSnap := k.wrIdx, sAck := k.sReqA } else s

/-- Power-on reset in the middle of a run (R84, R390; log 13): the inputs still to come and the draw counter are the
model's own and stay, and the configuration does not change (R80). -/
def powerOn (s : State) : State := { State.initial s.config with inputs := s.inputs, draws := s.draws }

/-- The state at the moment the next event is taken: the event is off the list and the draw counter has moved on
(log 1, log 3). -/
def State.accept (s : State) (rest : List Event) : State := { s with inputs := rest, draws := s.draws + 1 }

end Sys2Proof.Machine
end

