-- ==== Sys2Proof/Machine/Columns.lean ====
section
/-! DEFINITION. `COLRANGE` (R295, R296): the ideal definition, exactly, by integer arithmetic, and the choice of
another table within the named properties (log 9).

β(fc(x)) = 20 · 1000^(e/q) · FFT_N / fs, where q = 2 · (W - 1) and e = 2x for a column centre, 2x - 1 and 2x + 1 for
its edges. With fs = n units of 2^-149, a comparison of a/b with it is a comparison of q-th powers. -/

namespace Sys2Proof.Machine

open F32

/-- The two sides of the comparison of `a/b` with β(f), f = 20 · 1000^(e/q): the q-th powers of `a · fs` and of
`b · 20 · FFT_N`, each times its share of 1000^e. -/
def betaSides (κ : Config) (n q a b : Nat) (e : Int) : Nat × Nat :=
  ((a * n) ^ q * Config.fRatio ^ (-e).toNat, (b * (Config.fMin * κ.fftN * 2 ^ 149)) ^ q * Config.fRatio ^ e.toNat)

/-- The largest number of `i` bits on top of `r` that satisfies `P`, bit by bit, for a downward closed `P`. -/
def greatest (P : Nat → Bool) : Nat → Nat → Nat
  | 0, r => r
  | i + 1, r => greatest P i (if P (r + 2 ^ i) then r + 2 ^ i else r)

/-- ceil(β(f)) (R296): one more than the largest k below β(f); k is searched below 2^20, which is above every bin. -/
def ceilBeta (κ : Config) (n q : Nat) (e : Int) : Nat :=
  greatest (fun k => let p := betaSides κ n q k 1 e; decide (p.1 < p.2)) 20 0 + 1

/-- floor(β(f) + 1/2) (R296): the largest j with (2j - 1)/2 ≤ β(f). -/
def nearestBin (κ : Config) (n q : Nat) (e : Int) : Nat :=
  greatest (fun j => let p := betaSides κ n q (2 * j - 1) 2 e; decide (p.1 ≤ p.2)) 20 0

/-- The first bin of column `x`, and the first bin after it (R296): those whose centre lies in it are between. -/
def columnEdges (κ : Config) (x W n : Nat) : Nat × Nat :=
  let q := 2 * (W - 1)
  (ceilBeta κ n q (2 * x - 1), ceilBeta κ n q (2 * x + 1))

/-- The bins column `x` shows, before the clip at the last bin (R296): those whose centre lies in it, else the nearest
to its centre. -/
def columnBins (κ : Config) (x W n : Nat) : Nat × Nat :=
  let r := columnEdges κ x W n
  let mid := nearestBin κ n (2 * (W - 1)) (2 * x)
  if r.2 - 1 < r.1 then (mid, mid) else (r.1, r.2 - 1)

/-- The ideal definition (R296), for a sample rate of `n` units of 2^-149. -/
def idealColumn (κ : Config) (x W n : Nat) : Option (Nat × Nat) :=
  let r := columnBins κ x W n
  if κ.nBin - 1 < r.1 then none else some (r.1, min r.2 (κ.nBin - 1))

/-- P-COL-RANGE (R296), for one column. -/
def columnInRange (κ : Config) (r : Option (Nat × Nat)) : Bool :=
  match r with
  | none => true
  | some (lo, hi) => decide (lo ≤ hi) && decide (hi ≤ κ.nBin - 1)

/-- P-COL-MONO (R296), for a column and the next one. -/
def columnsRise : Option (Nat × Nat) → Option (Nat × Nat) → Bool
  | none, r => r.isNone
  | some _, none => true
  | some (lo, hi), some (lo', hi') => decide (lo ≤ lo') && decide (hi ≤ hi')

/-- A column shows bin `k`. -/
def columnShows (k : Nat) : Option (Nat × Nat) → Bool
  | none => false
  | some (lo, hi) => decide (lo ≤ k) && decide (k ≤ hi)

/-- P-COL-COVER (R296), for column `x` of the table `t`: each bin whose centre lies in it is shown by it or by a
neighbour. -/
def columnCovered (κ : Config) (W n : Nat) (t : Nat → Option (Nat × Nat)) (x : Nat) : Bool :=
  let r := columnEdges κ x W n
  (List.range κ.nBin).all fun k =>
    !(decide (r.1 ≤ k) && decide (k < r.2)) || columnShows k (t x)
      || (decide (0 < x) && columnShows k (t (x - 1))) || (decide (x + 1 < W) && columnShows k (t (x + 1)))

/-- The table `t` of `W` columns has the named properties (R296). -/
def columnsSound (κ : Config) (W n : Nat) (t : Nat → Option (Nat × Nat)) : Bool :=
  (List.range W).all fun x =>
    columnInRange κ (t x) && (decide (W ≤ x + 1) || columnsRise (t x) (t (x + 1))) && columnCovered κ W n t x

/-- `COLRANGE(x, W, fs)` (R296): the configured table; a free table without the named properties is replaced by the
ideal one. Where R296 defines nothing, for a width below 2 or a sample rate that is not finite and positive, it is
free. -/
def colRange (κ : Config) (x W : Nat) (fs : Word) : Option (Nat × Nat) :=
  let raw := fun y => Config.colRangeRaw κ.log2N y W fs
  if 2 ≤ W ∧ finitePositive fs then
    match κ.colRange with
    | .ideal => idealColumn κ x W (units fs)
    | .other => if columnsSound κ W (units fs) raw then raw x else idealColumn κ x W (units fs)
  else raw x

end Sys2Proof.Machine
end

