-- ==== Sys2Proof/Machine/Num.lean ====
section
/-! DEFINITION. The functions of the record `NUM` that are not the transform (R17, U2): free values with every named
property imposed (log 5).

P-FAITHFUL is imposed by rational arithmetic: an enclosure of the exact real result leaves the two `F32` values that
bracket it, and the free value chooses between them. -/

namespace Sys2Proof.Machine

/-! ### Enclosures of real numbers -/

/-- Two rational numbers between which a real number lies. -/
structure Enclosure where
  lo : ℚ
  hi : ℚ

/-- The enclosure of `m` with an error of at most `e`. -/
def Enclosure.around (m e : ℚ) : Enclosure := ⟨m - e, m + e⟩

/-- The sum of two enclosed numbers. -/
def Enclosure.add (a b : Enclosure) : Enclosure := ⟨a.lo + b.lo, a.hi + b.hi⟩

/-- An enclosed number times a rational one. -/
def Enclosure.scale (q : ℚ) (a : Enclosure) : Enclosure := ⟨min (q * a.lo) (q * a.hi), max (q * a.lo) (q * a.hi)⟩

/-- The quotient of two enclosed numbers, the second positive. -/
def Enclosure.div (a b : Enclosure) : Enclosure :=
  ⟨min (a.lo / b.lo) (a.lo / b.hi), max (a.hi / b.lo) (a.hi / b.hi)⟩

/-- The first `n` terms of Σ x^m · k! / (k + m)!; for `k` = 0, of the exponential series. -/
def expSeries (x : ℚ) : Nat → Nat → ℚ
  | 0, _ => 0
  | n + 1, k => 1 + x / (k + 1) * expSeries x n (k + 1)

/-- The first `n` terms of Σ (-y)^m · k! / (k + 2m)!; with y = x², the cosine series for `k` = 0 and, divided by x, the
sine series for `k` = 1. -/
def trigSeries (y : ℚ) : Nat → Nat → ℚ
  | 0, _ => 0
  | n + 1, k => 1 - y / ((k + 1) * (k + 2)) * trigSeries y n (k + 2)

/-- The first `n` terms of Σ u^m / (k + m); times u and for `k` = 1, of the series of -ln(1 - u). -/
def logSeries (u : ℚ) : Nat → Nat → ℚ
  | 0, _ => 0
  | n + 1, k => 1 / k + u * logSeries u n (k + 1)

/-- A bound of the remainder of the sine and cosine series after 80 terms. -/
def trigError (x : ℚ) : ℚ := 2 * |x| ^ 160 / Nat.factorial 160

/-- sin x, for x from 0 to π. -/
def sinEnclosure (x : ℚ) : Enclosure := .around (x * trigSeries (x * x) 80 1) (trigError x)

/-- cos x, for x from 0 to π. -/
def cosEnclosure (x : ℚ) : Enclosure := .around (trigSeries (x * x) 80 0) (trigError x)

/-- tan x, for x from 0 to below π/2. -/
def tanEnclosure (x : ℚ) : Enclosure := (sinEnclosure x).div (cosEnclosure x)

/-- e^x, for x from -24 to 24. -/
def expEnclosure (x : ℚ) : Enclosure := .around (expSeries x 256 0) (2 * |x| ^ 256 / Nat.factorial 256)

/-- ln z, for z from 1 to 2: -ln(1 - u) with u = 1 - 1/z. -/
def lnEnclosure (z : ℚ) : Enclosure :=
  let u := 1 - 1 / z
  let s := u * logSeries u 256 1
  ⟨s, s + u ^ 257 / (1 - u)⟩

/-- ln 10 = 3 ln 2 + ln (5/4). -/
def lnTen : Enclosure := ((lnEnclosure 2).scale 3).add (lnEnclosure (5 / 4))

/-- log10 of `n` units of 2^-149, for n above 0: with n = z · 2^e and z from 1 to below 2, (ln z + (e - 149) ln 2) / ln
10. -/
def log10Enclosure (n : Nat) : Enclosure :=
  (Enclosure.add (lnEnclosure (n / 2 ^ n.log2)) ((lnEnclosure 2).scale ((n.log2 : ℚ) - 149))).div lnTen

/-- 10^x = e^(x ln 10), for x from -10 to 10. -/
def pow10Enclosure (x : ℚ) : Enclosure :=
  let a := lnTen.scale x
  ⟨(expEnclosure a.lo).lo, (expEnclosure a.hi).hi⟩

namespace F32

/-! ### Faithful results -/

/-- The value of a finite word (R14). -/
def toRat (w : Word) : ℚ := signedUnits w / 2 ^ 149

/-- Bits 30:0 of the largest finite `F32` not above `q`, and of the smallest not below it, for q not below 0: the
magnitude is cut off below 24 significant bits or below 2^-149. -/
def magBelow (q : ℚ) : Nat :=
  let u := q * 2 ^ 149
  let k := (u.floor.toNat).log2 - 23
  min (k * 2 ^ 23 + (u / 2 ^ k).floor.toNat) (infBits - 1)

/-- Bits 30:0 of the smallest `F32` not below `q`, for q not below 0. -/
def magAbove (q : ℚ) : Nat :=
  let u := q * 2 ^ 149
  let k := (u.floor.toNat).log2 - 23
  min (k * 2 ^ 23 + (u / 2 ^ k).ceil.toNat) infBits

/-- The largest finite `F32` not above `q`. -/
def below (q : ℚ) : Word := if 0 ≤ q then pack false (magBelow q) else pack true (magAbove (-q))

/-- The smallest `F32` not below `q`. -/
def above (q : ℚ) : Word := if 0 ≤ q then pack false (magAbove q) else pack true (magBelow (-q))

/-- A faithful result (R17, P-FAITHFUL) of free choice: one of the two `F32` values that bracket the enclosed number,
by bit 0 of `raw`; the `F32` value itself where there is one inside the enclosure. A zero has the sign of `raw`. -/
def faithful (raw : Word) (y : Enclosure) : Word :=
  let r := if raw.getLsbD 0 then above y.lo else below y.hi
  if isZero r then pack (sign raw) 0 else r

/-- The value is from 0 to `w`, a positive word. -/
def upTo (w x : Word) : Bool := isZero x || (!sign x && decide (mag x ≤ mag w))

/-- The largest `F32` below π. -/
def belowPi : Word := 0x40490FDA#32
/-- The largest `F32` below π/2. -/
def belowHalfPi : Word := 0x3FC90FDA#32
/-- 10.0. -/
def ten : Word := 0x41200000#32

/-- A word of [-1, 1]: `r` itself when it lies there. -/
def toUnit (r : Word) : Word := if mag r ≤ mag one then r else pack (sign r) (mag one)

/-- `NUM.sin(x)` (R17): NaN for NaN, faithful from 0 to π, in [-1, 1] for finite x, otherwise free (log 5). -/
def sin (x : Word) : Word :=
  let raw := Config.sinRaw x
  if isNaN x then asNaN raw
  else if upTo belowPi x then faithful raw (sinEnclosure (toRat x))
  else if isFinite x then toUnit raw else raw

/-- `NUM.cos(x)` (R17): NaN for NaN, faithful from 0 to π, in [-1, 1] for finite x, otherwise free (log 5). -/
def cos (x : Word) : Word :=
  let raw := Config.cosRaw x
  if isNaN x then asNaN raw
  else if upTo belowPi x then faithful raw (cosEnclosure (toRat x))
  else if isFinite x then toUnit raw else raw

/-- `NUM.tan(x)` (R17): NaN for NaN, tan(+0.0) = +0.0, faithful from 0 to below π/2, otherwise free (log 5). -/
def tan (x : Word) : Word :=
  let raw := Config.tanRaw x
  if isNaN x then asNaN raw
  else if x = zero then zero
  else if upTo belowHalfPi x then faithful raw (tanEnclosure (toRat x))
  else raw

/-- `NUM.log10(x)` (R17): NaN for NaN, log10(1.0) = +0.0, log10(+Inf) = +Inf, faithful for finite x above 0, otherwise
free (log 5). -/
def log10 (x : Word) : Word :=
  let raw := Config.log10Raw x
  if isNaN x then asNaN raw
  else if x = one then zero
  else if x = 0x7F800000#32 then 0x7F800000#32
  else if isFinite x && !sign x && !isZero x then faithful raw (log10Enclosure (units x))
  else raw

/-- `NUM.pow10(x)` (R17): NaN for NaN, pow10(±0.0) = 1.0, faithful from -10 to 10, and a result above 0 or +0.0 or +Inf,
otherwise free, for every other x (log 5). -/
def pow10 (x : Word) : Word :=
  let raw := Config.pow10Raw x
  if isNaN x then asNaN raw
  else if isZero x then one
  else if mag x ≤ mag ten then faithful raw (pow10Enclosure (toRat x))
  else pack false (min (mag raw) infBits)

end F32

end Sys2Proof.Machine
end

