-- ==== Sys2Proof/Machine/Transform.lean ====
section
/-! DEFINITION. The transform `NUM.fft` (R289 to R291): the default algorithm, and the choice of another one within its
named properties. -/

namespace Sys2Proof.Machine

open F32

/-! ### The default transform (R290) -/

/-- `rev(n)` (R290): the low `b` bits of `n` reversed. -/
def bitReverse : Nat → Nat → Nat
  | 0, _ => 0
  | b + 1, n => (n % 2) * 2 ^ b + bitReverse b (n / 2)

/-- The product of a twiddle and a value, four products, a difference and a sum (R290, `tr` and `ti`). -/
def twiddleMul (ν : Word) (w b : Cpx) : Cpx :=
  ⟨fsub ν (fmul ν w.re b.re) (fmul ν w.im b.im), fadd ν (fmul ν w.re b.im) (fmul ν w.im b.re)⟩

/-- Component-wise `fadd` (R290). -/
def Cpx.add (ν : Word) (a t : Cpx) : Cpx := ⟨fadd ν a.re t.re, fadd ν a.im t.im⟩

/-- Component-wise `fsub` (R290). -/
def Cpx.sub (ν : Word) (a t : Cpx) : Cpx := ⟨fsub ν a.re t.re, fsub ν a.im t.im⟩

/-- `TW[t]` of the configuration (R288). -/
def twiddleAt (κ : Config) (t : Nat) : Cpx := κ.tw.getD t ⟨zero, zero⟩

/-- The butterflies of one group of 2h values (R290, the loop over j), with the h twiddles of the pass. -/
def butterflies (ν : Word) (tw xs : List Cpx) : List Cpx :=
  let top := xs.take tw.length
  let ts := List.zipWith (twiddleMul ν) tw (xs.drop tw.length)
  List.zipWith (Cpx.add ν) top ts ++ List.zipWith (Cpx.sub ν) top ts

/-- Pass `p` (from 1 to LOG2N) over all groups (R290, the loop over k). -/
def fftPass (κ : Config) (ν : Word) (xs : List Cpx) (p : Nat) : List Cpx :=
  let m := 2 ^ p
  let step := κ.fftN / m
  let tw := (List.range (m / 2)).map fun j => twiddleAt κ (j * step)
  (List.range step).flatMap fun g => butterflies ν tw ((xs.drop (g * m)).take m)

/-- The default `NUM.fft` (R290): bit-reversed load, then LOG2N passes. DEDUCED: where R290's algorithm cannot keep the
accuracy that P-FFT-ACC of R291 names (a sum of finite inputs that overflows, inputs near the smallest subnormal), or
where it gives an infinite input's outputs no NaN component, which R291's remark on P-FFT-NAN expects, R290 is followed
(log 21). -/
def fft (κ : Config) (ν : Word) (u : List Word) : List Cpx :=
  let load := (List.range κ.fftN).map fun i => (⟨u.getD (bitReverse κ.log2N i) zero, zero⟩ : Cpx)
  ((List.range κ.log2N).map (· + 1)).foldl (fftPass κ ν) load

/-! ### Another transform (R289, R291, U3, U4; log 23) -/

/-- The first `n` terms of Σ (-y)^m / (k + 2m); with y = t², times t and for `k` = 1, of the series of arctan t. -/
def arctanSeries (y : ℚ) : Nat → Nat → ℚ
  | 0, _ => 0
  | n + 1, k => 1 / k - y * arctanSeries y n (k + 2)

/-- π = 16 arctan (1/5) - 4 arctan (1/239). -/
def piEnclosure : Enclosure :=
  .around (16 / 5 * arctanSeries (1 / 25) 120 1 - 4 / 239 * arctanSeries (1 / 239 ^ 2) 120 1) (1 / 5 ^ 240)

/-- The value of `f`, which moves by no more than its argument does, at the enclosed angle of `m` of N parts of a turn,
from the series `f`. -/
def turnEnclosure (κ : Config) (f : ℚ → ℚ) (m : Nat) : Enclosure :=
  let θ := piEnclosure.scale (2 * m / κ.fftN)
  let mid := (θ.lo + θ.hi) / 2
  .around (f mid) (trigError mid + (θ.hi - θ.lo))

/-- cos (2π·m/N) (R289). -/
def cosTurn (κ : Config) (m : Nat) : Enclosure := turnEnclosure κ (fun x => trigSeries (x * x) 80 0) m

/-- sin (2π·m/N) (R289). -/
def sinTurn (κ : Config) (m : Nat) : Enclosure := turnEnclosure κ (fun x => x * trigSeries (x * x) 80 1) m

/-- Σ over n of q · u[n] · f(kn mod N), over the real numbers (R289). -/
def dftSum (κ : Config) (u : List Word) (k : Nat) (q : ℚ) (f : Nat → Enclosure) : Enclosure :=
  (List.range κ.fftN).foldl (fun a n => a.add ((f (k * n % κ.fftN)).scale (q * toRat (u.getD n zero)))) ⟨0, 0⟩

/-- The largest |u[n]| (R291, M). -/
def largest (u : List Word) : ℚ := u.foldl (fun m w => max m |toRat w|) 0

/-- A finite word is within the distance `tol` of the enclosed number. -/
def isWithin (tol : ℚ) (y : Enclosure) (w : Word) : Bool :=
  isFinite w && decide (y.lo - tol ≤ toRat w) && decide (toRat w ≤ y.hi + tol)

/-- `raw` where it is within the tolerance; else the `F32` value beside the number that is; else, when no `F32` value
is, `raw`. -/
def kept (tol : ℚ) (y : Enclosure) (raw : Word) : Word :=
  if isWithin tol y raw then raw
  else if isWithin tol y (below y.hi) then below y.hi
  else if isWithin tol y (above y.lo) then above y.lo
  else raw

/-- A word without a NaN's sign and payload, which no rule reads (R16). -/
def plain (w : Word) : Word := if isNaN w then 0x7FC00000#32 else w

/-- Output `k` of another transform (R291): zeros of free sign for an input of zeros (P-FFT-ZERO), within 2^-20 · LOG2N
· N · M of the exact component for finite inputs, wherever an `F32` value is (P-FFT-ACC), free for other inputs
(P-FFT-NAN), and always a function of the input alone (P-FFT-DET). -/
def otherFftAt (κ : Config) (u : List Word) (k : Nat) : Cpx :=
  let raw := Config.fftRaw (u.map plain) k
  if u.all isZero then ⟨pack (sign raw.re) 0, pack (sign raw.im) 0⟩
  else if u.all isFinite then
    let tol := κ.log2N * κ.fftN * largest u / 2 ^ 20
    ⟨kept tol (dftSum κ u k 1 (cosTurn κ)) raw.re, kept tol (dftSum κ u k (-1) (sinTurn κ)) raw.im⟩
  else raw

/-- `NUM.fft` (R17): the configured transform. -/
def transform (κ : Config) (ν : Word) (u : List Word) : List Cpx :=
  match κ.fft with
  | .standard => fft κ ν u
  | .other => (List.range κ.fftN).map (otherFftAt κ u)

end Sys2Proof.Machine
end

