-- ==== Sys2Proof/Machine/Analyzer.lean ====
section
/-! DEFINITION. The spectral analyzer and the path queue: ACCUM, XFORM, RDBIN, MAP, PUBLISH (ANA port) and PTAKE, PRD
(REN port) (R280 to R314). -/

namespace Sys2Proof.Machine

open F32

/-- The guards that FPOPB and the four analyzer steps share (R371, R372): prepared, then analyzer enabled. -/
def withAnalyzer (s : State) (body : Result) : Result :=
  require s.prepared .notPrep s <| require s.analyzerOn .disabled s body

/-- ACCUM (R283): shifts the rolling buffer left by one block and appends the validated block. -/
def execAccum (ch : BitVec 4) (s : State) : Result :=
  withChannel ch s fun c =>
  withAnalyzer s <|
  let k := s.chan c
  require k.popValid .empty s <|
  withWords .popBuf (Memory.readRange k.popBuf 0 s.rBlk.toNat) fun block =>
  done (s.setChan c { k with roll := k.roll.drop s.rBlk.toNat ++ block, popValid := false, newAudio := true })

/-! ### Transform -/

/-- `SCALE` = 2 / FFT_N (R292), a power of two. -/
def scale (κ : Config) : Word := pack false ((128 - κ.log2N) * 2 ^ 23)

/-- `MAGDB(re, im)` (R292): the magnitude in decibels, clamped at the floor. -/
def magDb (κ : Config) (ν floor : Word) (x : Cpx) : Word :=
  let m := fmul ν (fsqrt ν (fadd ν (fmul ν x.re x.re) (fmul ν x.im x.im))) (scale κ)
  if isNaN m || !fgt m zero then floor
  else
    let l := fmul ν twenty (log10 m)
    if isNaN l || flt l floor then floor else l

/-- The `NBIN` decibel values of a rolling buffer (R285). -/
def spectrum (κ : Config) (ν floor : Word) (roll : List Word) : List Word :=
  ((transform κ ν (List.zipWith (fmul ν) roll κ.win)).take κ.nBin).map (magDb κ ν floor)

/-- XFORM (R285). The NaN draws inside never reach `db` (log 4). -/
def execXform (ch : BitVec 4) (s : State) : Result :=
  withChannel ch s fun c =>
  withAnalyzer s <|
  let k := s.chan c
  require k.newAudio .empty s <|
  let bins := spectrum s.config (s.nan 0) s.settings.aFloor k.roll
  done (s.setChan c { k with db := Memory.writeFrom k.db 0 bins, newAudio := false, dbValid := true })

/-- RDBIN (R293). -/
def execRdbin (ch : BitVec 4) (imm : BitVec 16) (s : State) : Result :=
  withChannel ch s fun c =>
  require (decide (imm.toNat ≤ s.config.nBin - 1)) .operand s <|
  let k := s.chan c
  require k.dbValid .empty s <|
  withWord .db (Memory.read k.db imm.toNat) fun w => doneWith s w

/-! ### Map to path -/

/-- `ymap(d)` (R297); `ν j` is the NaN draw of operation `j`. -/
def yMap (ν : Nat → Word) (r : Settings) (d : Word) : Word :=
  let span := fsub (ν 0) zero r.aFloor
  let t := fdiv (ν 2) (fsub (ν 1) d r.aFloor) span
  fadd (ν 5) r.dYbot (fmul (ν 4) t (fsub (ν 3) r.dYtop r.dYbot))

/-- The larger of the value so far and the next bin (R299). -/
def keepLarger (d w : Word) : Word := if fgt w d then w else d

/-- The decibel value of a column (R299): the largest of its bins, not below the floor; the floor for no bins; none
when a bin was never written. -/
def columnValue (db : Memory) (floor : Word) : Option (Nat × Nat) → Option Word
  | none => some floor
  | some (lo, hi) =>
    match Memory.readRange db lo (hi - lo + 1) with
    | some (d :: ds) =>
      let m := ds.foldl keepLarger d
      some (if flt m floor then floor else m)
    | _ => none

/-- The path words of columns `x`, `x + 1`, …, `x + n - 1` (R299). -/
def pathWords (κ : Config) (ν : Nat → Word) (db : Memory) (r : Settings) (fs : Word) (x : Nat) :
    Nat → Option (List Word)
  | 0 => some []
  | n + 1 =>
    match columnValue db r.aFloor (colRange κ x r.dW.toNat fs), pathWords κ ν db r fs (x + 1) n with
    | some d, some ws => some (yMap (fun j => ν (8 * x + j)) r d :: ws)
    | _, _ => none

/-- MAP (R299). -/
def execMap (ch : BitVec 4) (s : State) : Result :=
  withChannel ch s fun c =>
  withAnalyzer s <|
  let k := s.chan c
  require k.dbValid .empty s <|
  withWords .db (pathWords s.config s.nan k.db s.settings s.rFs 0 s.settings.dW.toNat) fun ws =>
  done (s.setChan c { k with
    pbuf := Memory.writeFrom k.pbuf (pathIndex k.pBack 0) ws
    plen := k.plen.set k.pBack s.settings.dW
    pathReady := true })

/-- PUBLISH (R302). -/
def execPublish (ch : BitVec 4) (s : State) : Result :=
  withChannel ch s fun c =>
  withAnalyzer s <|
  let k := s.chan c
  require k.pathReady .empty s <|
  done (s.setChan c { k with pBack := k.pFront, pFront := k.pBack, pNew := true, pathReady := false })

/-- PTAKE (R312): answers the point count of the path just taken. -/
def execPtake (ch : BitVec 4) (s : State) : Result :=
  withChannel ch s fun c =>
  let k := s.chan c
  require k.pNew .empty s <|
  doneWith (s.setChan c { k with pHeld := k.pFront, pFront := k.pHeld, pNew := false, heldValid := true })
    ((k.plen.get k.pFront).setWidth 32)

/-- PRD (R313): the column is bounded by the held path's length, when a path is held. -/
def execPrd (ch : BitVec 4) (imm : BitVec 16) (s : State) : Result :=
  withChannel ch s fun c =>
  let k := s.chan c
  require (!k.heldValid || decide (imm.toNat < (k.plen.get k.pHeld).toNat)) .operand s <|
  require k.heldValid .empty s <|
  withWord .pbuf (Memory.read k.pbuf (pathIndex k.pHeld imm.toNat)) fun w => doneWith s w

end Sys2Proof.Machine
end

