-- ==== Sys2Proof/Machine/Audio.lean ====
section
/-! DEFINITION. Audio processing: BLKBEG, SMP, BLKEND (R210 to R225). -/

namespace Sys2Proof.Machine

open F32

/-- The adoption of a posted configuration at a block boundary (R194, R214), when its request is visible to AUD. -/
def State.adopt (s : State) : State :=
  if s.cReqA != s.cAck then { s with cfgAct := s.cfgPosted, cAck := s.cReqA } else s

/-- BLKBEG (R214). -/
def execBlkbeg (s : State) : Result :=
  require s.prepared .notPrep s <|
  require (!s.inBlock) .seq s <|
  let a := s.adopt
  done { a with
    inBlock := true
    pushEn := a.cfgAct.anEn
    chans := a.chans.map fun k => { k with smpCnt := 0#16 } }

/-- The signal of one channel on its way through the chain: the sample and the delay words (R55, R216). -/
structure Signal where
  v : Word
  z1 : Vector Word 9
  z2 : Vector Word 9
  deriving DecidableEq, Repr

/-- `biquad(c, s, x)` (R217) with coefficients `k`: the output and the new delay words. `ν j` is the NaN draw of
operation `j` of the stage (log 3). DEDUCED: R221 calls every later output NaN once a delay word is NaN, while by R217
a NaN in `z2` alone shows one sample later; R217 is followed (log 21). -/
def biquad (ν : Nat → Word) (k : Coef) (x z1 z2 : Word) : Word × Word × Word :=
  let y := fadd (ν 1) (fmul (ν 0) k.b0 x) z1
  let z1' := fadd (ν 5) (fsub (ν 4) (fmul (ν 2) k.b1 x) (fmul (ν 3) k.a1 y)) z2
  let z2' := fsub (ν 8) (fmul (ν 6) k.b2 x) (fmul (ν 7) k.a2 y)
  (y, z1', z2')

/-- Stage `t` of the chain on the signal (R216): skipped when its stage bypass bit is set. -/
def runStage (ν : Nat → Word) (k : Chan) (g : ChanCfg) (f : Signal) (t : Fin 9) : Signal :=
  if g.stageByp t then f
  else
    let r := biquad (fun j => ν (16 * t.val + j)) (k.bank t (g.sel.get t)) f.v (f.z1.get t) (f.z2.get t)
    { v := r.1, z1 := f.z1.set t r.2.1, z2 := f.z2.set t r.2.2 }

/-- Chain position `p` on the signal (R216): skipped when the position is bypassed. -/
def runPosition (ν : Nat → Word) (k : Chan) (g : ChanCfg) (f : Signal) (p : Fin 3) : Signal :=
  if g.posByp.get p then f else (stagesOf p).foldl (runStage ν k g) f

/-- The whole chain on one sample (R212, R216): LC, then PK, then HC. -/
def runChain (ν : Nat → Word) (k : Chan) (g : ChanCfg) (x : Word) : Signal :=
  [0, 1, 2].foldl (runPosition ν k g) ⟨x, k.z1, k.z2⟩

/-- The ring memory after SMP (R216, R219): the output sample in the slot of the current write index, when the block
is pushed. -/
def Chan.tap (κ : Config) (k : Chan) (push : Bool) (v : Word) : Memory :=
  if push then Memory.write k.slot (slotIndex κ k.wrIdx k.smpCnt.toNat) v else k.slot

/-- SMP (R216). -/
def execSmp (ch : BitVec 4) (wdata : Word) (s : State) : Result :=
  withChannel ch s fun c =>
  require s.prepared .notPrep s <|
  let k := s.chan c
  require (s.inBlock && decide (k.smpCnt.toNat < s.rBlk.toNat)) .seq s <|
  let f := runChain s.nan k (s.cfgAct.chan c) wdata
  doneWith (s.setChan c { k with
    z1 := f.z1, z2 := f.z2, slot := k.tap s.config s.pushEn f.v, smpCnt := k.smpCnt + 1#16 }) f.v

/-- BLKEND (R220). -/
def execBlkend (s : State) : Result :=
  require s.prepared .notPrep s <|
  require (s.inBlock && s.chans.left.smpCnt == s.rBlk && s.chans.right.smpCnt == s.rBlk) .seq s <|
  done { s with
    inBlock := false
    chans := if s.pushEn then s.chans.map fun k => { k with wrIdx := k.wrIdx + 1#32 } else s.chans }

end Sys2Proof.Machine
end

