-- ==== Sys2Proof/Machine/ChainControl.lean ====
section
/-! DEFINITION. Filter chain control: SETCOEF, CUTCFG, POSBYP, ANEN, COMMIT, RDCOEF, RDCFG (R180 to R201). -/

namespace Sys2Proof.Machine

/-- SETCOEF (R186). -/
def execSetcoef (ch idx : BitVec 4) (s : State) : Result :=
  withChannel ch s fun c =>
  withStage idx s fun t =>
  require (!s.commitPending) .busy s <|
  let b := s.freeBank c t
  let sh := s.cfgSh.chan c
  done { s.setChan c ((s.chan c).setBank t b s.cst) with
    cfgSh := s.cfgSh.setChan c { sh with sel := sh.sel.set t b } }

/-- The four stage bypass bits of a cut filter of slope code `k` (R188): stages 0..k enabled, the rest bypassed. -/
def cutBypass (k : Nat) : Vector Bool 4 := Vector.ofFn fun i => decide (k < i.val)

/-- Stages 0..k of the cut filter are fresh (R188). -/
def State.cutFresh (s : State) (c : Channel) (cut : Cut) (k : Nat) : Bool :=
  (List.finRange 4).all fun i => decide (k < i.val) || s.fresh c (cut.stage i)

/-- CUTCFG (R188): slope code `imm[1:0]`. -/
def execCutcfg (ch idx : BitVec 4) (imm : BitVec 16) (s : State) : Result :=
  withChannel ch s fun c =>
  withCut idx s fun cut =>
  let k := (imm.extractLsb' 0 2).toNat
  require (s.cutFresh c cut k) .stale s <|
  done { s with cfgSh := s.cfgSh.setChan c ((s.cfgSh.chan c).setCutByp cut (cutBypass k)) }

/-- POSBYP (R190): flag `imm[0]`. -/
def execPosbyp (ch idx : BitVec 4) (imm : BitVec 16) (s : State) : Result :=
  withChannel ch s fun c =>
  withPosition idx s fun p =>
  let sh := s.cfgSh.chan c
  done { s with cfgSh := s.cfgSh.setChan c { sh with posByp := sh.posByp.set p (imm.getLsbD 0) } }

/-- ANEN (R191): flag `imm[0]`. -/
def execAnen (imm : BitVec 16) (s : State) : Result :=
  done { s with cfgSh := { s.cfgSh with anEn := imm.getLsbD 0 } }

/-- COMMIT (R192). -/
def execCommit (s : State) : Result :=
  require (!s.commitPending) .busy s <|
  done { s with cfgPosted := s.cfgSh, cReq := !s.cReq }

/-- RDCOEF (R196): word `imm[2:0]` of the bank the posted (`imm[4]` = 0) or shadow configuration selects. -/
def execRdcoef (ch idx : BitVec 4) (imm : BitVec 16) (s : State) : Result :=
  withChannel ch s fun c =>
  withStage idx s fun t =>
  withCoefWord (imm.extractLsb' 0 3).toNat s fun k =>
  let g := if imm.getLsbD 4 then s.cfgSh else s.cfgPosted
  doneWith s (((s.chan c).bank t ((g.chan c).sel.get t)).get k)

/-- RDCFG (R197): the posted (`imm[0]` = 0) or shadow configuration, packed. -/
def execRdcfg (ch : BitVec 4) (imm : BitVec 16) (s : State) : Result :=
  withChannel ch s fun c =>
  doneWith s ((if imm.getLsbD 0 then s.cfgSh else s.cfgPosted).packed c)

end Sys2Proof.Machine
end

