-- ==== Sys2Proof/Machine/Factory.lean ====
section
/-! DEFINITION. Coefficient staging and the coefficient factory: WRC, RDC, FACPK, FACLC, FACHC (R150 to R169). -/

namespace Sys2Proof.Machine

open F32

/-- WRC (R152). -/
def execWrc (idx : BitVec 4) (wdata : Word) (s : State) : Result :=
  withCoefWord idx.toNat s fun k =>
  require (isFinite wdata) .range s <|
  done { s with cst := s.cst.set k wdata }

/-- RDC (R153). -/
def execRdc (idx : BitVec 4) (s : State) : Result :=
  withCoefWord idx.toNat s fun k => doneWith s (s.cst.get k)

/-- All five words are finite (R151). -/
def Coef.allFinite (c : Coef) : Bool :=
  isFinite c.b0 && isFinite c.b1 && isFinite c.b2 && isFinite c.a1 && isFinite c.a2

/-- `finalize` (R151): the defensive clamp at the factory's boundary. -/
def finalize (c : Coef) : Coef := if c.allFinite then c else .ident

/-- `f < fs / 2` as the factory tests it, strictly (R156, R160, R164). -/
def belowNyquist (ν f fs : Word) : Bool := flt f (fmul ν half fs)

/-- `peak_f32(f, g, q, fs)` (R157), with the draw `ν` for a NaN, which `finalize` never lets out (log 4). -/
def peakCoef (ν f g q fs : Word) : Coef :=
  let amp := pow10 (fdiv ν g forty)
  let w0 := fdiv ν (fmul ν twoPi f) fs
  let alpha := fdiv ν (sin w0) (fmul ν two q)
  let c := fmul ν negTwo (cos w0)
  let aA := fmul ν alpha amp
  let aOA := fdiv ν alpha amp
  let a0 := fadd ν one aOA
  { b0 := fdiv ν (fadd ν one aA) a0
    b1 := fdiv ν c a0
    b2 := fdiv ν (fsub ν one aA) a0
    a1 := fdiv ν c a0
    a2 := fdiv ν (fsub ν one aOA) a0 }

/-- `hp_f32(fc, fs, iq)` (R161). -/
def highPassCoef (ν fc fs iq : Word) : Coef :=
  let t := tan (fdiv ν (fmul ν pi fc) fs)
  let n2 := fmul ν t t
  let qn := fmul ν iq t
  let d := fadd ν (fadd ν one qn) n2
  let c1 := fdiv ν one d
  { b0 := c1
    b1 := fmul ν negTwo c1
    b2 := c1
    a1 := fmul ν (fmul ν two c1) (fsub ν n2 one)
    a2 := fmul ν c1 (fadd ν (fsub ν one qn) n2) }

/-- `lp_f32(fc, fs, iq)` (R165). -/
def lowPassCoef (ν fc fs iq : Word) : Coef :=
  let t := fdiv ν one (tan (fdiv ν (fmul ν pi fc) fs))
  let n2 := fmul ν t t
  let qn := fmul ν iq t
  let d := fadd ν (fadd ν one qn) n2
  let c1 := fdiv ν one d
  { b0 := c1
    b1 := fmul ν two c1
    b2 := c1
    a1 := fmul ν (fmul ν two c1) (fsub ν one n2)
    a2 := fmul ν c1 (fadd ν (fsub ν one qn) n2) }

/-- The block FACPK computes (R156): IDENT for inputs outside the domain. -/
def peakBlock (ν f g q fs : Word) : Coef :=
  if isFinite f && isFinite g && isFinite q && isFinite fs && fgt f zero && fgt q zero && belowNyquist ν f fs then
    finalize (peakCoef ν f g q fs)
  else .ident

/-- The cutoff is inside the domain (R160, R164). -/
def validCutoff (ν fc fs : Word) : Bool := isFinite fc && isFinite fs && fgt fc zero && belowNyquist ν fc fs

/-- The block FACLC computes (R160). -/
def lowCutBlock (ν fc fs iq : Word) : Coef :=
  if validCutoff ν fc fs then finalize (highPassCoef ν fc fs iq) else .ident

/-- The block FACHC computes (R164). -/
def highCutBlock (ν fc fs iq : Word) : Coef :=
  if validCutoff ν fc fs then finalize (lowPassCoef ν fc fs iq) else .ident

/-- FACPK (R156). -/
def execFacpk (s : State) : Result :=
  require s.prepared .notPrep s <|
  done { s with cst := peakBlock (s.nan 0) s.settings.sPkFreq s.settings.sPkGain s.settings.sPkQ s.rFs }

/-- FACLC (R160): section `imm[1:0]`. -/
def execFaclc (imm : BitVec 16) (s : State) : Result :=
  let i := (imm.extractLsb' 0 2).toNat
  let slope := s.settings.sLcSlope.toNat
  require (decide (i ≤ slope)) .operand s <|
  require s.prepared .notPrep s <|
  done { s with cst := lowCutBlock (s.nan 0) s.settings.sLcFreq s.rFs (invQ slope i) }

/-- FACHC (R164): section `imm[1:0]`. -/
def execFachc (imm : BitVec 16) (s : State) : Result :=
  let i := (imm.extractLsb' 0 2).toNat
  let slope := s.settings.sHcSlope.toNat
  require (decide (i ≤ slope)) .operand s <|
  require s.prepared .notPrep s <|
  done { s with cst := highCutBlock (s.nan 0) s.settings.sHcFreq s.rFs (invQ slope i) }

end Sys2Proof.Machine
end

