-- ==== Sys2Proof/Machine/Fifo.lean ====
section
/-! DEFINITION. The consumer side of the sample FIFO: FSNAP, FAVAIL, FPOPB, FRD, FPOPE (R240 to R260). -/

namespace Sys2Proof.Machine

/-- FSNAP (R248). -/
def execFsnap (ch : BitVec 4) (s : State) : Result :=
  withChannel ch s fun c =>
  let k := s.chan c
  require (!k.snapPending) .busy s <|
  done (s.setChan c { k with sReq := !k.sReq, snapPost := true })

/-- FAVAIL (R250). -/
def execFavail (ch : BitVec 4) (s : State) : Result :=
  withChannel ch s fun c =>
  let k := s.chan c
  require (!k.snapPending) .busy s <|
  let most := usableBlocks s.config
  doneWith s (if k.unread.toNat ≤ most.toNat then k.unread else most)

/-- FPOPB (R251). -/
def execFpopb (ch : BitVec 4) (s : State) : Result :=
  withChannel ch s fun c =>
  require s.prepared .notPrep s <|
  require s.analyzerOn .disabled s <|
  let k := s.chan c
  require (!k.popActive) .seq s <|
  require (!k.snapPending) .busy s <|
  let a := k.unread
  require (a != 0#32) .empty s <|
  if s.config.fifoCap ≤ a.toNat then
    overrun (s.setChan c { k with rdIdx := k.skipTarget s.config }) (a - usableBlocks s.config)
  else
    doneWith (s.setChan c { k with popActive := true, popCnt := 0#16, snapPost := false, popValid := false }) a

/-- FRD (R252). -/
def execFrd (ch : BitVec 4) (s : State) : Result :=
  withChannel ch s fun c =>
  let k := s.chan c
  require (k.popActive && decide (k.popCnt.toNat < s.rBlk.toNat)) .seq s <|
  withWord .slot (Memory.read k.slot (slotIndex s.config k.rdIdx k.popCnt.toNat)) fun w =>
  doneWith (s.setChan c { k with
    popBuf := Memory.write k.popBuf k.popCnt.toNat w, popCnt := k.popCnt + 1#16, snapPost := false }) w

/-- FPOPE (R253). -/
def execFpope (ch : BitVec 4) (s : State) : Result :=
  withChannel ch s fun c =>
  let k := s.chan c
  require (k.popActive && k.popCnt == s.rBlk && k.snapPost) .seq s <|
  require (!k.snapPending) .busy s <|
  let a := k.unread
  if a.toNat ≤ s.config.fifoCap - 1 then
    doneWith (s.setChan c { k with popActive := false, rdIdx := k.rdIdx + 1#32, popValid := true }) (a - 1#32)
  else
    overrun (s.setChan c { k with popActive := false, rdIdx := k.skipTarget s.config, popValid := false })
      (a - usableBlocks s.config)

end Sys2Proof.Machine
end

