-- ==== Sys2Proof/Machine/Lifecycle.lean ====
section
/-! DEFINITION. The lifecycle and settings commands: NOP, PREPARE, RESET, WRS, RDS (R330 to R340). -/

namespace Sys2Proof.Machine

/-- NOP (R331). -/
def execNop (s : State) : Result := done s

/-- The sample rate is legal (R334): finite and from FS_MIN to FS_MAX. -/
def legalRate (κ : Config) (fs : Word) : Bool := F32.isFinite fs && F32.fle κ.fsMin fs && F32.fle fs κ.fsMax

/-- PREPARE (R334). -/
def execPrepare (imm : BitVec 16) (wdata : Word) (s : State) : Result :=
  require (decide (1 ≤ imm.toNat) && decide (imm.toNat ≤ s.config.blkMax)) .operand s <|
  require s.quiescent .busy s <|
  require (legalRate s.config wdata) .range s <|
  done { s with rFs := wdata, rBlk := imm, prepared := true }.resetRuntime

/-- RESET (R335). -/
def execReset (s : State) : Result := require s.quiescent .busy s <| done s.resetRuntime

/-- WRS (R338). -/
def execWrs (idx : BitVec 4) (wdata : Word) (s : State) : Result :=
  require (decide (idx.toNat ≤ 12)) .operand s <|
  require (legalSetting s.config idx wdata) .range s <|
  done { s with settings := s.settings.write idx wdata }

/-- RDS (R339). -/
def execRds (idx : BitVec 4) (s : State) : Result := doneWith s (s.readSetting idx)

end Sys2Proof.Machine
end

