-- ==== Sys2Proof/Machine/Dispatch.lean ====
section
/-! DEFINITION. One arm per command (R127): the meaning of each instruction. -/

namespace Sys2Proof.Machine

def exec (i : Instr) (s : State) : Host.Outcome State Fault Refusal :=
  match i with
  | .nop => Sys2Proof.Machine.execNop s
  | .prepare imm wdata => Sys2Proof.Machine.execPrepare imm wdata s
  | .reset => Sys2Proof.Machine.execReset s
  | .wrs idx wdata => Sys2Proof.Machine.execWrs idx wdata s
  | .rds idx => Sys2Proof.Machine.execRds idx s
  | .wrc idx wdata => Sys2Proof.Machine.execWrc idx wdata s
  | .rdc idx => Sys2Proof.Machine.execRdc idx s
  | .facpk => Sys2Proof.Machine.execFacpk s
  | .faclc imm => Sys2Proof.Machine.execFaclc imm s
  | .fachc imm => Sys2Proof.Machine.execFachc imm s
  | .setcoef ch idx => Sys2Proof.Machine.execSetcoef ch idx s
  | .cutcfg ch idx imm => Sys2Proof.Machine.execCutcfg ch idx imm s
  | .posbyp ch idx imm => Sys2Proof.Machine.execPosbyp ch idx imm s
  | .anen imm => Sys2Proof.Machine.execAnen imm s
  | .commit => Sys2Proof.Machine.execCommit s
  | .rdcoef ch idx imm => Sys2Proof.Machine.execRdcoef ch idx imm s
  | .rdcfg ch imm => Sys2Proof.Machine.execRdcfg ch imm s
  | .blkbeg => Sys2Proof.Machine.execBlkbeg s
  | .smp ch wdata => Sys2Proof.Machine.execSmp ch wdata s
  | .blkend => Sys2Proof.Machine.execBlkend s
  | .fsnap ch => Sys2Proof.Machine.execFsnap ch s
  | .favail ch => Sys2Proof.Machine.execFavail ch s
  | .fpopb ch => Sys2Proof.Machine.execFpopb ch s
  | .frd ch => Sys2Proof.Machine.execFrd ch s
  | .fpope ch => Sys2Proof.Machine.execFpope ch s
  | .accum ch => Sys2Proof.Machine.execAccum ch s
  | .xform ch => Sys2Proof.Machine.execXform ch s
  | .rdbin ch imm => Sys2Proof.Machine.execRdbin ch imm s
  | .map ch => Sys2Proof.Machine.execMap ch s
  | .publish ch => Sys2Proof.Machine.execPublish ch s
  | .ptake ch => Sys2Proof.Machine.execPtake ch s
  | .prd ch imm => Sys2Proof.Machine.execPrd ch imm s

end Sys2Proof.Machine
end

