-- ==== Sys2Proof/Machine/Ports.lean ====
section
/-! DEFINITION. What one event does (R7, R19, R126): a command presented on a port is decoded and answered, an
autonomous step is taken; and the placing of an instruction where the next step takes it. -/

namespace Sys2Proof.Machine

/-- A command presented on a port (R19, R126): decoded, then run; a word that is no command of the port is answered
ST_ILLEGAL (R128). -/
def present (p : Port) (cmd wdata : Word) (s : State) : Result :=
  match decode p cmd wdata with
  | none => illegalCommand s
  | some i => exec i s

/-- One event as one atomic step (R7, R96). -/
def perform (e : Event) (s : State) : Result :=
  match e with
  | .command p cmd wdata => present p cmd wdata s
  | .synCreq => .next (synCreq s)
  | .synCack => .next (synCack s)
  | .synSreq c => .next (synSreq c s)
  | .synSack c => .next (synSack c s)
  | .snp c => .next (snp c s)
  | .powerOn => .next (powerOn s)

/-- The event that presents an instruction's words on the port of its class (log 17). -/
def commandEvent (cmd wdata : Word) : Event := .command (portOfClass cmd) cmd wdata

end Sys2Proof.Machine
end

