-- ==== Sys2Proof/Machine/Step.lean ====
section
/-! DEFINITION. One step of the machine: the next event of the interleaving (R7, R96); with no event to come the block
is idle and nothing changes (R331, log 1). -/

namespace Sys2Proof.Machine

/-- One step (R7, R96). -/
def step (s : State) : Host.Outcome State Fault Refusal :=
  match s.inputs with
  | [] => .next s
  | e :: rest => perform e (s.accept rest)

/-- `s` with an instruction's words presented before the inputs already waiting, so that the next step runs it
(log 1, log 17). -/
def State.withFetchWord (s : State) (nbits w : Nat) : State :=
  let v := tableWords nbits w
  { s with inputs := commandEvent v.1 v.2 :: s.inputs }

end Sys2Proof.Machine
end

