-- ==== Sys2Proof/Safety.lean ====
section
/-! DEFINITION. The terms in which claims about the block are made: frames, the status a command must report (R363),
the invariants of reachable states, and runs of steps. -/

namespace Sys2Proof.Machine

/-! ### Frames -/

/-- The `ch` code of a channel (R2, R121). -/
def Channel.code : Channel → BitVec 4
  | .left => 0#4
  | .right => 1#4

/-- The `idx` code of a cut filter (R20, R124): chain position LC or HC. -/
def Cut.code : Cut → BitVec 4
  | .lc => 0#4
  | .hc => 2#4

/-- Every word of every memory reads the same in both states. -/
def SameMemory (s t : State) : Prop := ∀ m c i, t.peek m c i = s.peek m c i

/-- Every word of every memory reads the same in both states, but for the words of memory `m` of channel `c` at the
indices that satisfy `stored`. -/
def SameMemoryBut (s t : State) (m : MemoryName) (c : Channel) (stored : Nat → Prop) : Prop :=
  ∀ m' c' i, ¬(m' = m ∧ c' = c ∧ stored i) → t.peek m' c' i = s.peek m' c' i

/-- `t` is `s` with another answer in its lanes; nothing else differs. -/
def OnlyAnswer (s t : State) : Prop := t = { s with answer := t.answer } ∧ SameMemory s t

/-- The command answers the status with `rdata` 0 and changes nothing (R362). -/
def Refuses (i : Instr) (s : State) (st : Status) : Prop :=
  ∃ t, exec i s = .next t ∧ t.answer = some ⟨st, 0#32⟩ ∧ OnlyAnswer s t

/-- Which command a word presented on a port is; none for an event that presents no command. -/
def Event.instr : Event → Option Instr
  | .command p cmd wdata => decode p cmd wdata
  | .synCreq | .synCack | .synSreq _ | .synSack _ | .snp _ | .powerOn => none

/-! ### The status a command must report (R361, R363, R370 to R376) -/

/-- The channel state a `ch` field names, for `ch` 0 or 1. -/
def State.chanAt (s : State) (ch : BitVec 4) : Chan := if ch = 1#4 then s.chans.right else s.chans.left

/-- ST_OPERAND applies (R370). -/
def operandCause (i : Instr) (s : State) : Bool :=
  match i with
  | .prepare imm _ => imm.toNat == 0 || decide (s.config.blkMax < imm.toNat)
  | .wrs idx _ => decide (12 < idx.toNat)
  | .wrc idx _ => decide (4 < idx.toNat)
  | .rdc idx => decide (4 < idx.toNat)
  | .faclc imm => decide (s.settings.sLcSlope.toNat < imm.toNat % 4)
  | .fachc imm => decide (s.settings.sHcSlope.toNat < imm.toNat % 4)
  | .setcoef ch idx => decide (1 < ch.toNat) || decide (8 < idx.toNat)
  | .cutcfg ch idx _ => decide (1 < ch.toNat) || !(idx.toNat == 0 || idx.toNat == 2)
  | .posbyp ch idx _ => decide (1 < ch.toNat) || decide (2 < idx.toNat)
  | .rdcoef ch idx imm => decide (1 < ch.toNat) || decide (8 < idx.toNat) || decide (4 < imm.toNat % 8)
  | .rdbin ch imm => decide (1 < ch.toNat) || decide (s.config.nBin - 1 < imm.toNat)
  | .prd ch imm =>
    let k := s.chanAt ch
    decide (1 < ch.toNat) || (k.heldValid && decide ((k.plen.get k.pHeld).toNat ≤ imm.toNat))
  | .rdcfg ch _ | .smp ch _ | .fsnap ch | .favail ch | .fpopb ch | .frd ch | .fpope ch | .accum ch | .xform ch
  | .map ch | .publish ch | .ptake ch => decide (1 < ch.toNat)
  | .nop | .reset | .rds _ | .facpk | .anen _ | .commit | .blkbeg | .blkend => false

/-- The commands that need the first PREPARE (R371). -/
def needsPrepared : Instr → Bool
  | .facpk | .faclc _ | .fachc _ | .blkbeg | .smp _ _ | .blkend | .fpopb _ | .accum _ | .xform _ | .map _
  | .publish _ => true
  | .nop | .prepare _ _ | .reset | .wrs _ _ | .rds _ | .wrc _ _ | .rdc _ | .setcoef _ _ | .cutcfg _ _ _
  | .posbyp _ _ _ | .anen _ | .commit | .rdcoef _ _ _ | .rdcfg _ _ | .fsnap _ | .favail _ | .frd _ | .fpope _
  | .rdbin _ _ | .ptake _ | .prd _ _ => false

/-- The commands that need the analyzer enabled (R372). -/
def needsAnalyzer : Instr → Bool
  | .fpopb _ | .accum _ | .xform _ | .map _ | .publish _ => true
  | .nop | .prepare _ _ | .reset | .wrs _ _ | .rds _ | .wrc _ _ | .rdc _ | .facpk | .faclc _ | .fachc _
  | .setcoef _ _ | .cutcfg _ _ _ | .posbyp _ _ _ | .anen _ | .commit | .rdcoef _ _ _ | .rdcfg _ _ | .blkbeg
  | .smp _ _ | .blkend | .fsnap _ | .favail _ | .frd _ | .fpope _ | .rdbin _ _ | .ptake _ | .prd _ _ => false

/-- ST_SEQ applies (R373). -/
def seqCause (i : Instr) (s : State) : Bool :=
  match i with
  | .blkbeg => s.inBlock
  | .smp ch _ => !s.inBlock || decide (s.rBlk.toNat ≤ (s.chanAt ch).smpCnt.toNat)
  | .blkend => !s.inBlock || s.chans.left.smpCnt != s.rBlk || s.chans.right.smpCnt != s.rBlk
  | .fpopb ch => (s.chanAt ch).popActive
  | .frd ch => !(s.chanAt ch).popActive || decide (s.rBlk.toNat ≤ (s.chanAt ch).popCnt.toNat)
  | .fpope ch => !(s.chanAt ch).popActive || (s.chanAt ch).popCnt != s.rBlk || !(s.chanAt ch).snapPost
  | .nop | .prepare _ _ | .reset | .wrs _ _ | .rds _ | .wrc _ _ | .rdc _ | .facpk | .faclc _ | .fachc _
  | .setcoef _ _ | .cutcfg _ _ _ | .posbyp _ _ _ | .anen _ | .commit | .rdcoef _ _ _ | .rdcfg _ _ | .fsnap _
  | .favail _ | .accum _ | .xform _ | .rdbin _ _ | .map _ | .publish _ | .ptake _ | .prd _ _ => false

/-- ST_BUSY applies (R361): a handshake the command needs is pending, or the block is not quiescent (R333). -/
def busyCause (i : Instr) (s : State) : Bool :=
  match i with
  | .setcoef _ _ | .commit => s.cReq != s.cAckC
  | .fsnap ch | .favail ch | .fpopb ch | .fpope ch => (s.chanAt ch).sReq != (s.chanAt ch).sAckN
  | .prepare _ _ | .reset => s.inBlock || s.chans.left.popActive || s.chans.right.popActive
  | .nop | .wrs _ _ | .rds _ | .wrc _ _ | .rdc _ | .facpk | .faclc _ | .fachc _ | .cutcfg _ _ _ | .posbyp _ _ _
  | .anen _ | .rdcoef _ _ _ | .rdcfg _ _ | .blkbeg | .smp _ _ | .blkend | .frd _ | .accum _ | .xform _ | .rdbin _ _
  | .map _ | .publish _ | .ptake _ | .prd _ _ => false

/-- The word is in the legal set of the settings register (the table of R338; `D_W` is a `U16`, R40). -/
def inLegalSet (κ : Config) (idx : BitVec 4) (w : Word) : Bool :=
  if idx ∈ [0#4, 2#4, 3#4, 4#4] then F32.isFinite w && F32.flt 0x00000000#32 w
  else if idx ∈ [1#4, 11#4, 12#4] then F32.isFinite w
  else if idx ∈ [5#4, 6#4] then decide (w.toNat ≤ 3)
  else if idx = 7#4 then decide (w.toNat ≤ 7)
  else if idx = 8#4 then decide (w.toNat ≤ 1)
  else if idx = 9#4 then F32.isFinite w && F32.flt w 0x00000000#32
  else if idx = 10#4 then decide (2 ≤ w.toNat ∧ w.toNat ≤ κ.wMax ∧ w.toNat ≤ 65535)
  else false

/-- ST_RANGE applies (R375). -/
def rangeCause (i : Instr) (s : State) : Bool :=
  match i with
  | .prepare _ w => !(F32.isFinite w && F32.fle s.config.fsMin w && F32.fle w s.config.fsMax)
  | .wrs idx w => !inLegalSet s.config idx w
  | .wrc _ w => !F32.isFinite w
  | .nop | .reset | .rds _ | .rdc _ | .facpk | .faclc _ | .fachc _ | .setcoef _ _ | .cutcfg _ _ _ | .posbyp _ _ _
  | .anen _ | .commit | .rdcoef _ _ _ | .rdcfg _ _ | .blkbeg | .smp _ _ | .blkend | .fsnap _ | .favail _ | .fpopb _
  | .frd _ | .fpope _ | .accum _ | .xform _ | .rdbin _ _ | .map _ | .publish _ | .ptake _ | .prd _ _ => false

/-- ST_STALE applies (R188, R376): the shadow and the posted configuration select the same bank of a stage that the
slope code enables. -/
def staleCause (i : Instr) (s : State) : Bool :=
  match i with
  | .cutcfg ch idx imm =>
    let sh := if ch = 1#4 then s.cfgSh.chans.right else s.cfgSh.chans.left
    let po := if ch = 1#4 then s.cfgPosted.chans.right else s.cfgPosted.chans.left
    let base := if idx = 0#4 then 0 else 5
    (List.range (imm.toNat % 4 + 1)).any fun j => sh.sel.toList[base + j]? == po.sel.toList[base + j]?
  | .nop | .prepare _ _ | .reset | .wrs _ _ | .rds _ | .wrc _ _ | .rdc _ | .facpk | .faclc _ | .fachc _
  | .setcoef _ _ | .posbyp _ _ _ | .anen _ | .commit | .rdcoef _ _ _ | .rdcfg _ _ | .blkbeg | .smp _ _ | .blkend
  | .fsnap _ | .favail _ | .fpopb _ | .frd _ | .fpope _ | .accum _ | .xform _ | .rdbin _ _ | .map _ | .publish _
  | .ptake _ | .prd _ _ => false

/-- ST_EMPTY applies (R361): the data the command consumes does not exist. -/
def emptyCause (i : Instr) (s : State) : Bool :=
  match i with
  | .fpopb ch => (s.chanAt ch).wrSnap == (s.chanAt ch).rdIdx
  | .accum ch => !(s.chanAt ch).popValid
  | .xform ch => !(s.chanAt ch).newAudio
  | .rdbin ch _ => !(s.chanAt ch).dbValid
  | .map ch => !(s.chanAt ch).dbValid
  | .publish ch => !(s.chanAt ch).pathReady
  | .ptake ch => !(s.chanAt ch).pNew
  | .prd ch _ => !(s.chanAt ch).heldValid
  | .nop | .prepare _ _ | .reset | .wrs _ _ | .rds _ | .wrc _ _ | .rdc _ | .facpk | .faclc _ | .fachc _
  | .setcoef _ _ | .cutcfg _ _ _ | .posbyp _ _ _ | .anen _ | .commit | .rdcoef _ _ _ | .rdcfg _ _ | .blkbeg
  | .smp _ _ | .blkend | .fsnap _ | .favail _ | .frd _ | .fpope _ => false

/-- ST_OVERRUN applies (R251, R253): more blocks than the usable capacity of FIFO_CAP - 1 lie between the last
snapshot and the read index, modulo 2^32. -/
def overrunCause (i : Instr) (s : State) : Bool :=
  match i with
  | .fpopb ch | .fpope ch =>
    decide (s.config.fifoCap - 1 < ((s.chanAt ch).wrSnap.toNat + 2 ^ 32 - (s.chanAt ch).rdIdx.toNat) % 2 ^ 32)
  | .nop | .prepare _ _ | .reset | .wrs _ _ | .rds _ | .wrc _ _ | .rdc _ | .facpk | .faclc _ | .fachc _
  | .setcoef _ _ | .cutcfg _ _ _ | .posbyp _ _ _ | .anen _ | .commit | .rdcoef _ _ _ | .rdcfg _ _ | .blkbeg
  | .smp _ _ | .blkend | .fsnap _ | .favail _ | .frd _ | .accum _ | .xform _ | .rdbin _ _ | .map _ | .publish _
  | .ptake _ | .prd _ _ => false

/-- The status has a cause for this command in this state (R361, R370 to R376). -/
def hasCause (i : Instr) (s : State) : Status → Bool
  | .operand => operandCause i s
  | .notPrep => needsPrepared i && !s.prepared
  | .disabled => needsAnalyzer i && s.settings.sAnen == 0#1
  | .seq => seqCause i s
  | .busy => busyCause i s
  | .range => rangeCause i s
  | .stale => staleCause i s
  | .empty => emptyCause i s
  | .overrun => overrunCause i s
  | .ok => false
  | .illegal => false

/-- The statuses a decoded command can report, first to report first (R363). -/
def statusOrder : List Status :=
  [.operand, .notPrep, .disabled, .seq, .busy, .range, .stale, .empty, .overrun]

/-- The status R363 makes the command report: the first in the order that applies, ST_OK when none does. -/
def reported (i : Instr) (s : State) : Status := (statusOrder.find? (hasCause i s)).getD .ok

/-! ### Invariants of the machine's data -/

/-- Every memory has its canonical form. -/
def Canonical (s : State) : Prop := ∀ c m, Memory.wf (s.memory c m) = true

/-- The configuration keeps the constraints of R9: FFT_N from 64 to 32768, FIFO_CAP from 4 to 2^15, W_MAX at least 2, a
positive range of sample rates, and tables of the right lengths with finite words (log 6). -/
structure LegalConfig (κ : Config) : Prop where
  fft_size : 6 ≤ κ.log2N ∧ κ.log2N ≤ 15
  fifo_size : 2 ≤ κ.log2Cap ∧ κ.log2Cap ≤ 15
  width : 2 ≤ κ.wMax
  rates : finitePositive κ.fsMin = true ∧ F32.isFinite κ.fsMax = true
  win : κ.win.length = κ.fftN ∧ κ.win.all F32.isFinite = true
  tw : κ.tw.length = κ.nBin ∧ (κ.tw.all fun z => F32.isFinite z.re && F32.isFinite z.im) = true

/-- Every settings register holds a legal value (R40); `D_W` may also hold its power-on value 512, which a small W_MAX
does not admit (log 6). -/
def Settings.legal (κ : Config) (r : Settings) : Prop :=
  finitePositive r.sPkFreq = true ∧ F32.isFinite r.sPkGain = true ∧ finitePositive r.sPkQ = true
    ∧ finitePositive r.sLcFreq = true ∧ finitePositive r.sHcFreq = true
    ∧ F32.isFinite r.aFloor = true ∧ F32.flt r.aFloor F32.zero = true
    ∧ 2 ≤ r.dW.toNat ∧ (r.dW.toNat ≤ κ.wMax ∨ r.dW = 512#16) ∧ F32.isFinite r.dYtop = true ∧ F32.isFinite r.dYbot = true

/-- The staging registers and every bank hold finite words only (R186). -/
def CoefficientsFinite (s : State) : Prop :=
  s.cst.allFinite = true ∧ ∀ c t b, ((s.chan c).bank t b).allFinite = true

/-- The stages of a cut filter that are not bypassed are a prefix (R189): once a stage is bypassed, so are all after
it. -/
def PrefixEnabled (byp : Vector Bool 4) : Prop := ∀ i j : Fin 4, i < j → byp.get i = true → byp.get j = true

/-- Both cut filters of both channels of a configuration record enable a prefix of their stages (R189). -/
def Cfg.prefixes (g : Cfg) : Prop := ∀ c cut, PrefixEnabled ((g.chan c).cutByp cut)

/-- The three path buffer numbers are a permutation of 0, 1, 2 (R75). -/
def Chan.buffersDistinct (k : Chan) : Prop := k.pBack ≠ k.pFront ∧ k.pBack ≠ k.pHeld ∧ k.pFront ≠ k.pHeld

/-- The invariant of the machine's data: a legal configuration, canonical memories, a rolling buffer of FFT_N words,
legal settings, finite coefficients, cut filters that enable a prefix, path buffer numbers that are a permutation,
sample counters within the block size, and, once prepared, a legal sample rate and block size. -/
structure Inv (s : State) : Prop where
  config : LegalConfig s.config
  canonical : Canonical s
  roll_length : ∀ c, (s.chan c).roll.length = s.config.fftN
  settings : s.settings.legal s.config
  finite : CoefficientsFinite s
  prefixes : s.cfgSh.prefixes ∧ s.cfgPosted.prefixes ∧ s.cfgAct.prefixes
  buffers : ∀ c, (s.chan c).buffersDistinct
  counters : ∀ c, (s.chan c).smpCnt.toNat ≤ s.rBlk.toNat ∧ (s.chan c).popCnt.toNat ≤ s.rBlk.toNat
  prepared : s.prepared = true → legalRate s.config s.rFs = true ∧ 1 ≤ s.rBlk.toNat ∧ s.rBlk.toNat ≤ s.config.blkMax

/-- Before the first PREPARE nothing has been started (R371): no block or pop is open, every FIFO index is 0 and every
flag that guards data is 0. -/
def Idle (s : State) : Prop :=
  s.prepared = false → s.inBlock = false ∧ ∀ c,
    (s.chan c).popActive = false ∧ (s.chan c).popValid = false ∧ (s.chan c).wrIdx = 0#32 ∧ (s.chan c).wrSnap = 0#32
      ∧ (s.chan c).rdIdx = 0#32 ∧ (s.chan c).newAudio = false ∧ (s.chan c).dbValid = false
      ∧ (s.chan c).pathReady = false ∧ (s.chan c).pNew = false ∧ (s.chan c).heldValid = false

/-! ### The handshakes -/

/-- The reachable combinations of the commit toggles (R57, R104): idle, posted, seen, adopted; and `cfg_act` is
`cfg_posted` when the last request has been adopted. -/
def CommitInv (s : State) : Prop :=
  (s.cReq = s.cAckC → s.cReqA = s.cReq ∧ s.cAck = s.cReq)
    ∧ (s.cReqA ≠ s.cReq → s.cAck = s.cReqA)
    ∧ (s.cReqA = s.cReq → s.cAck = s.cReq → s.cfgAct = s.cfgPosted)

/-- The reachable combinations of the snapshot toggles of a channel (R64, R105). -/
def Chan.snapInv (k : Chan) : Prop :=
  (k.sReq = k.sAckN → k.sReqA = k.sReq ∧ k.sAck = k.sReq) ∧ (k.sReqA ≠ k.sReq → k.sAck = k.sReqA)

/-- The coefficient block the audio datapath uses for a stage (R51). -/
def State.activeBlock (s : State) (c : Channel) (t : Fin 9) : Coef :=
  (s.chan c).bank t ((s.cfgAct.chan c).sel.get t)

/-! ### The signal chain (R212, R216) -/

/-- The chain position of a stage (R20). -/
def positionOfStage (t : Fin 9) : Fin 3 := if t.val < 4 then 0 else if t.val = 4 then 1 else 2

/-- The stages a configuration runs, in processing order (R212, R216): those of positions that are not bypassed that
are not bypassed themselves. -/
def enabledStages (g : ChanCfg) : List (Fin 9) :=
  (List.finRange 9).filter fun t => !g.posByp.get (positionOfStage t) && !g.stageByp t

/-- One enabled stage on the signal (R217): its output goes on, its delay words are replaced. -/
def stageOn (ν : Nat → Word) (k : Chan) (g : ChanCfg) (f : Signal) (t : Fin 9) : Signal :=
  let r := biquad (fun j => ν (16 * t.val + j)) (k.bank t (g.sel.get t)) f.v (f.z1.get t) (f.z2.get t)
  { v := r.1, z1 := f.z1.set t r.2.1, z2 := f.z2.set t r.2.2 }

/-! ### The effect of a command reset (R336) -/

/-- `t` has the values that `reset_runtime()` gives (R336), and keeps of every channel what R336 does not list. -/
def RuntimeReset (s t : State) : Prop :=
  t.cfgAct = s.cfgPosted ∧ t.cReq = false ∧ t.cReqA = false ∧ t.cAck = false ∧ t.cAckC = false
    ∧ t.inBlock = false ∧ t.pushEn = false ∧ ∀ c,
      (∀ u, (t.chan c).z1.get u = 0#32 ∧ (t.chan c).z2.get u = 0#32)
        ∧ (t.chan c).roll = List.replicate s.config.fftN 0#32
        ∧ t.chan c = { s.chan c with
            z1 := (t.chan c).z1, z2 := (t.chan c).z2, roll := (t.chan c).roll, smpCnt := 0#16
            wrIdx := 0#32, wrSnap := 0#32, rdIdx := 0#32
            sReq := false, sReqA := false, sAck := false, sAckN := false
            popActive := false, popCnt := 0#16, snapPost := false, popValid := false
            newAudio := false, dbValid := false, pathReady := false, pNew := false, heldValid := false
            pBack := 0, pFront := 1, pHeld := 2 }

/-! ### Which agent writes what (R30) -/

/-- The channel state AUD writes (R30); the rest is that of `k`. -/
def audPart (k k' : Chan) : Chan :=
  { k with z1 := k'.z1, z2 := k'.z2, smpCnt := k'.smpCnt, slot := k'.slot, wrIdx := k'.wrIdx }

/-- The channel state ANA writes (R30); the rest is that of `k`. -/
def anaPart (k k' : Chan) : Chan :=
  { k with
    rdIdx := k'.rdIdx, sReq := k'.sReq, popActive := k'.popActive, popCnt := k'.popCnt, snapPost := k'.snapPost
    popValid := k'.popValid, popBuf := k'.popBuf, roll := k'.roll, newAudio := k'.newAudio, dbValid := k'.dbValid
    db := k'.db, pathReady := k'.pathReady, pNew := k'.pNew, pbuf := k'.pbuf, plen := k'.plen, pBack := k'.pBack
    pFront := k'.pFront }

/-- The channel state REN writes (R30); the rest is that of `k`. -/
def renPart (k k' : Chan) : Chan :=
  { k with pHeld := k'.pHeld, pFront := k'.pFront, pNew := k'.pNew, heldValid := k'.heldValid }

/-! ### The guards of the memories (R85, R106) -/

/-- The `n` words from index `i` on have been written. -/
def Written (m : Memory) (i n : Nat) : Prop := ∀ j, j < n → (Memory.read m (i + j)).isSome = true

/-- The FIFO of a channel never offers an unwritten word (R106): either every slot of the ring has been written, or the
indices have not wrapped, stand in order, and every block below the write index has been written. -/
def Chan.fifoWritten (κ : Config) (k : Chan) (blk : Nat) : Prop :=
  (∀ j, j < κ.fifoCap → Written k.slot (j * κ.blkMax) blk)
    ∨ (k.rdIdx.toNat ≤ k.wrSnap.toNat ∧ k.wrSnap.toNat ≤ k.wrIdx.toNat
        ∧ (k.popActive = true → k.rdIdx.toNat < k.wrSnap.toNat)
        ∧ ∀ n, n < k.wrIdx.toNat → Written k.slot (n % κ.fifoCap * κ.blkMax) blk)

/-- What the flags and counters of a channel promise about its memories (R85). -/
structure Chan.guarded (κ : Config) (k : Chan) (blk : Nat) (pushing : Prop) : Prop where
  fifo : k.fifoWritten κ blk
  open_block : pushing → Written k.slot (slotIndex κ k.wrIdx 0) k.smpCnt.toNat
  open_pop : k.popActive = true → Written k.popBuf 0 k.popCnt.toNat
  popped : k.popValid = true → Written k.popBuf 0 blk
  bins : k.dbValid = true → Written k.db 0 κ.nBin
  paths : ∀ b, Written k.pbuf (pathIndex b 0) (k.plen.get b).toNat

/-- Every flag of both channels guards written words (R85). -/
def Guarded (s : State) : Prop :=
  ∀ c, (s.chan c).guarded s.config s.rBlk.toNat (s.inBlock = true ∧ s.pushEn = true)

/-! ### Runs -/

/-- `n` steps, ending at the first fault or refusal. -/
def steps : Nat → State → Result
  | 0, s => .next s
  | n + 1, s =>
    match step s with
    | .next t => steps n t
    | .fault f => .fault f
    | .refused r => .refused r

end Sys2Proof.Machine
end

