-- ==== Sys2Proof/Safety/Reference.lean ====
section
/-! DEFINITION. The real-number and complex-number functions that the rules refer to (R15, R17, R21 to R24, R155, R158,
R286, R289, R295, R296). They are what the machine's words are compared with in claims; no instruction computes them. -/

namespace Sys2Proof.Reference

open Sys2Proof.Machine

/-! ### Values and rounding (R14, R15, R17) -/

/-- The real value of a finite word (R14). -/
noncomputable def value (w : Word) : ℝ := (F32.signedUnits w : ℝ) / 2 ^ 149

/-- From here on a magnitude rounds to infinity: half a unit above the largest finite `F32` (R15). -/
noncomputable def overflowBound : ℝ := 2 ^ 128 - 2 ^ 103

/-- `r` is `x` rounded to the nearest `F32`, ties to the even significand, with overflow to infinity (R15). -/
def IsRounded (x : ℝ) (r : Word) : Prop :=
  if overflowBound ≤ |x| then F32.isInf r = true ∧ (F32.sign r = true ↔ x < 0)
  else
    F32.isFinite r = true
      ∧ (∀ v, F32.isFinite v = true → |value r - x| ≤ |value v - x|)
      ∧ (∀ v, F32.isFinite v = true → |value v - x| = |value r - x| → value v ≠ value r → F32.mag r % 2 = 0)

/-- P-FAITHFUL (R17): `r` is one of the two `F32` values that bracket `y`, and `y` itself when `y` is an `F32` value. -/
def IsFaithful (y : ℝ) (r : Word) : Prop :=
  F32.isFinite r = true ∧ ∀ v, F32.isFinite v = true →
    (value r < value v → y < value v) ∧ (value v < value r → value v < y)

/-- P-FAITHFUL (R17) of each `NUM` function over the real numbers: what the enclosures that `F32.faithful` chooses from
are for (log 5). -/
def NumFaithful : Prop :=
  (∀ x, F32.isFinite x = true → 0 ≤ value x → value x ≤ Real.pi →
      IsFaithful (Real.sin (value x)) (F32.sin x) ∧ IsFaithful (Real.cos (value x)) (F32.cos x))
    ∧ (∀ x, F32.isFinite x = true → 0 ≤ value x → value x < Real.pi / 2 →
      IsFaithful (Real.tan (value x)) (F32.tan x))
    ∧ (∀ x, F32.isFinite x = true → 0 < value x → IsFaithful (Real.logb 10 (value x)) (F32.log10 x))
    ∧ (∀ x, F32.isFinite x = true → -10 ≤ value x → value x ≤ 10 →
      IsFaithful ((10 : ℝ) ^ value x) (F32.pow10 x))

/-! ### Reference functions (R21 to R24) -/

/-- `dB(m)` (R21). -/
noncomputable def dB (m : ℝ) : ℝ := 20 * Real.logb 10 m

/-- `gain(d)` (R21). -/
noncomputable def gain (d : ℝ) : ℝ := (10 : ℝ) ^ (d / 20)

/-- A coefficient block over the real numbers (R50). -/
structure Block where
  b0 : ℝ
  b1 : ℝ
  b2 : ℝ
  a1 : ℝ
  a2 : ℝ

/-- The real block whose words are `k` (R50). -/
noncomputable def Block.ofCoef (k : Coef) : Block := ⟨value k.b0, value k.b1, value k.b2, value k.a1, value k.a2⟩

/-- `H(c, f, fs)` (R22): the transfer function of a block. -/
noncomputable def transfer (k : Block) (f fs : ℝ) : ℂ :=
  let z := Complex.exp (-(Complex.I * (2 * Real.pi * f / fs : ℝ)))
  (k.b0 + k.b1 * z + k.b2 * z ^ 2) / (1 + k.a1 * z + k.a2 * z ^ 2)

/-- `Mag(c, f, fs)` (R22). -/
noncomputable def magnitude (k : Block) (f fs : ℝ) : ℝ := ‖transfer k f fs‖

/-- `xpos(f, W)` (R23). -/
noncomputable def xpos (f : ℝ) (W : Nat) : ℝ := (W - 1) * Real.logb 10 (f / 20) / Real.logb 10 1000

/-- The stages the posted configuration runs on a channel, in processing order (R24, R212). -/
def postedStages (s : State) (c : Channel) : List (Fin 9) :=
  let g := s.cfgPosted.chan c
  [0, 1, 2].flatMap fun p : Fin 3 => if g.posByp.get p then [] else (stagesOf p).filter fun t => !g.stageByp t

/-- `Resp(f)` (R24): the theoretical response computed from what RDCOEF and RDCFG return. -/
noncomputable def response (s : State) (c : Channel) (f : ℝ) : ℝ :=
  dB ((postedStages s c).map fun t =>
    magnitude (Block.ofCoef ((s.chan c).bank t ((s.cfgPosted.chan c).sel.get t))) f (value s.rFs)).prod

/-! ### The filters' designs (R155, R158) -/

/-- The peak filter over the real numbers (R155). -/
noncomputable def peakDesign (f g q fs : ℝ) : Block :=
  let amp := (10 : ℝ) ^ (g / 40)
  let w0 := 2 * Real.pi * f / fs
  let alpha := Real.sin w0 / (2 * q)
  let a0 := 1 + alpha / amp
  ⟨(1 + alpha * amp) / a0, -2 * Real.cos w0 / a0, (1 - alpha * amp) / a0, -2 * Real.cos w0 / a0,
    (1 - alpha / amp) / a0⟩

/-- `1 / Q_i` of section `i` of a cut filter of slope code `S` (R158, R159). -/
noncomputable def invQDesign (S i : Nat) : ℝ := 2 * Real.cos ((2 * i + 1) * Real.pi / (4 * (S + 1)))

/-- Section `i` of the low-cut filter of slope code `S` over the real numbers (R158). -/
noncomputable def lowCutDesign (fc fs : ℝ) (S i : Nat) : Block :=
  let t := Real.tan (Real.pi * fc / fs)
  let qn := invQDesign S i * t
  let d := 1 + qn + t ^ 2
  ⟨1 / d, -2 / d, 1 / d, 2 * (t ^ 2 - 1) / d, (1 - qn + t ^ 2) / d⟩

/-- Section `i` of the high-cut filter of slope code `S` over the real numbers (R158). -/
noncomputable def highCutDesign (fc fs : ℝ) (S i : Nat) : Block :=
  let t := 1 / Real.tan (Real.pi * fc / fs)
  let qn := invQDesign S i * t
  let d := 1 + qn + t ^ 2
  ⟨1 / d, 2 / d, 1 / d, 2 * (1 - t ^ 2) / d, (1 - qn + t ^ 2) / d⟩

/-! ### The transform (R286, R289) -/

/-- The 4-term Blackman-Harris window (R286). -/
noncomputable def window (N n : Nat) : ℝ :=
  let θ := 2 * Real.pi * n / (N - 1)
  0.35875 - 0.48829 * Real.cos θ + 0.14128 * Real.cos (2 * θ) - 0.01168 * Real.cos (3 * θ)

/-- The discrete Fourier transform (R289). -/
noncomputable def dft (N : Nat) (u : Nat → ℝ) (k : Nat) : ℂ :=
  ∑ n ∈ Finset.range N, (u n : ℂ) * Complex.exp (-(Complex.I * (2 * Real.pi * k * n / N : ℝ)))

/-- Pass `p` of the default transform (R290) as a function of the index: with m = 2^p and h = m / 2, the value at `i` of
the lower half of its group is the sum, that of the upper half the difference, of its butterfly. -/
def butterflyPass (κ : Config) (ν : Word) (x : Nat → Cpx) (p i : Nat) : Cpx :=
  let m := 2 ^ p
  let h := 2 ^ (p - 1)
  let j := i % m
  let stride := κ.fftN / m
  if j < h then Cpx.add ν (x i) (twiddleMul ν (twiddleAt κ (j * stride)) (x (i + h)))
  else Cpx.sub ν (x (i - h)) (twiddleMul ν (twiddleAt κ ((j - h) * stride)) (x i))

/-- The value at index `i` after the first `n` passes of the default transform (R290); at first, the input in
bit-reversed order. -/
def afterPasses (κ : Config) (ν : Word) (u : Nat → Word) : Nat → Nat → Cpx
  | 0, i => ⟨u (bitReverse κ.log2N i), 0x00000000#32⟩
  | n + 1, i => butterflyPass κ ν (afterPasses κ ν u n) (n + 1) i

/-! ### The display (R295, R296) -/

/-- `fc(x)` (R295): the frequency of column `x`, also for a half-integer `x`. -/
noncomputable def columnFrequency (x : ℝ) (W : Nat) : ℝ := 20 * (1000 : ℝ) ^ (x / (W - 1))

/-- `β(f)` (R296): the bin position of a frequency. -/
noncomputable def binPosition (κ : Config) (f fs : ℝ) : ℝ := f * κ.fftN / fs

/-- `COLRANGE(x, W, fs)` over the real numbers (R296), the ideal definition. -/
noncomputable def idealRange (κ : Config) (x W : Nat) (fs : ℝ) : Option (ℤ × ℤ) :=
  let β := fun y : ℝ => binPosition κ (columnFrequency y W) fs
  let lo := ⌈β (x - 1 / 2)⌉
  let hi := ⌈β (x + 1 / 2)⌉ - 1
  let mid := ⌊β x + 1 / 2⌋
  let r := if hi < lo then (mid, mid) else (lo, hi)
  if κ.nBin - 1 < r.1 then none else some (r.1, min r.2 (κ.nBin - 1))

end Sys2Proof.Reference
end

