-- ==== Sys2Proof/Certificates/Slice0/Obligations.lean ====
section
/-! DEFINITION. The statements for the provers. Those about one command say where it completes and with what (its new
values, and, by an equation with the old state, that nothing else changes), then where it is refused. -/

open Sys2Proof Sys2Proof.Machine Sys2Proof.Reference

/-! ### Encoding and stepping -/

/-- Words written out from the encoding of R121 to R123 decode to the commands they stand for. -/
def Obligations.DecodeReadsWrittenWords : Prop :=
  decode .ctl 0x10000040#32 0x473B8000#32 = some (.prepare 0x0040#16 0x473B8000#32)
    ∧ decode .ctl 0x14030000#32 0xBF000000#32 = some (.wrc 3#4 0xBF000000#32)
    ∧ decode .ctl 0x1A020001#32 0#32 = some (.cutcfg 0#4 2#4 0x0001#16)
    ∧ decode .ctl 0x1E040013#32 0#32 = some (.rdcoef 0#4 4#4 0x0013#16)
    ∧ decode .aud 0x21100000#32 0x3F800000#32 = some (.smp 1#4 0x3F800000#32)
    ∧ decode .ana 0x33100000#32 0#32 = some (.frd 1#4)
    ∧ decode .ana 0x37000200#32 0#32 = some (.rdbin 0#4 0x0200#16)
    ∧ decode .ren 0x410001D9#32 0#32 = some (.prd 0#4 0x01D9#16)

/-- A step takes the next event, with that input taken and the counter of NaN draws moved on (the inputs and the
counter are the model's own, logs 1 and 3): `exec` of the decoded command; ST_ILLEGAL with `rdata` 0 for a word that is
no command of its port; for each step of SYN the copy of its one bit; for SNP the snapshot and the acknowledge when it
is enabled, nothing when it is not (that such an event may stand in the list and does nothing is the model's reading,
log 12); for power-on, also inside a run, the state of the same configuration after power-on, with no answer in the
lanes and the four memories forgotten (the model's choice, log 13). With no event to come a step changes nothing (the
model's choice, log 1). -/
def Obligations.StepRunsDecodedCommand : Prop :=
  ∀ s : State,
    (s.inputs = [] → step s = .next s)
    ∧ ∀ (e : Event) (rest : List Event), s.inputs = e :: rest →
      let a := { s with inputs := rest, draws := s.draws + 1 }
      (∀ p cmd wdata i, e = .command p cmd wdata → decode p cmd wdata = some i → step s = exec i a)
      ∧ (∀ p cmd wdata, e = .command p cmd wdata → decode p cmd wdata = none →
        step s = .next { a with answer := some ⟨.illegal, 0#32⟩ })
      ∧ (e = .synCreq → step s = .next { a with cReqA := s.cReq })
      ∧ (e = .synCack → step s = .next { a with cAckC := s.cAck })
      ∧ (∀ c, let k := s.chan c
        (e = .synSreq c → step s = .next { a with chans := s.chans.set c { k with sReqA := k.sReq } })
        ∧ (e = .synSack c → step s = .next { a with chans := s.chans.set c { k with sAckN := k.sAck } })
        ∧ (e = .snp c → k.sReqA ≠ k.sAck →
          step s = .next { a with chans := s.chans.set c { k with wrSnap := k.wrIdx, sAck := k.sReqA } })
        ∧ (e = .snp c → k.sReqA = k.sAck → step s = .next a))
      ∧ (e = .powerOn → step s = .next { State.initial s.config with inputs := rest, draws := s.draws + 1 })

/-- Decoding is the table of matches and masks (R132) with the port check (R126), and a word that is no command of its
port is answered ST_ILLEGAL with `rdata` 0 and changes nothing (R128). -/
def Obligations.IllegalWordsChangeNothing : Prop :=
  ∀ (s : State) (p : Port) (cmd wdata : Word),
    (decode p cmd wdata = none ↔
      ∀ row ∈ opcodeTable, cmd &&& row.mask = row.value → ∃ q, row.port = some q ∧ q ≠ p)
    ∧ (decode p cmd wdata = none →
      ∃ t, present p cmd wdata s = .next t ∧ t.answer = some ⟨.illegal, 0#32⟩ ∧ OnlyAnswer s t)

/-- Every well-formed command, with every operand, decodes from its own encoding on every port that accepts it. -/
def Obligations.DecodeOfEncode : Prop :=
  ∀ (i : Instr) (p : Port), i.wellFormed = true → p.accepts i = true →
    decode p (encode i).1 (encode i).2 = some i

/-- Each word has one meaning: a command word is the encoding of the command it decodes to, which is well formed and
accepted on the port; its data word is the command's, or is ignored (R122). -/
def Obligations.EncodeOfDecode : Prop :=
  ∀ (p : Port) (cmd wdata : Word) (i : Instr), decode p cmd wdata = some i →
    (encode i).1 = cmd ∧ i.wellFormed = true ∧ p.accepts i = true
      ∧ ((encode i).2 = wdata ∨ ∀ w, decode p cmd w = some i)

/-! ### Reset -/

/-- Every element has the power-on value of R84, the settings those of R40, for every configuration; the memories whose
contents R84 leaves unspecified hold no value (the model's choice, log 10); and the reset state has the configuration of
R9's defaults (that it is the one the reset state has is the model's choice, log 6). -/
def Obligations.PowerOnValues : Prop :=
  (State.reset = State.initial State.reset.config
    ∧ State.reset.config = { State.reset.config with
        log2N := 11, log2Cap := 5, wMax := 4096, fsMin := 0x45FA0000#32, fsMax := 0x493B8000#32, fft := .standard
        colRange := .ideal }
    ∧ State.reset.config.win.length = 2048 ∧ State.reset.config.tw.length = 1024)
  ∧ ∀ κ : Config,
    let s := State.initial κ
    s.config = κ ∧ s.cst = ⟨0x3F800000#32, 0#32, 0#32, 0#32, 0#32⟩
      ∧ s.settings = ⟨0x447A0000#32, 0x00000000#32, 0x3F800000#32, 0x41A00000#32, 0x469C4000#32, 0#2, 0#2, 0#3, 0#1,
          0xC2400000#32, 512#16, 0x00000000#32, 0x3F800000#32⟩
      ∧ s.rFs = 0#32 ∧ s.rBlk = 0#16 ∧ s.prepared = false
      ∧ s.cReq = false ∧ s.cReqA = false ∧ s.cAck = false ∧ s.cAckC = false ∧ s.inBlock = false ∧ s.pushEn = false
      ∧ (∀ g ∈ [s.cfgSh, s.cfgPosted, s.cfgAct], g.anEn = false ∧ ∀ c,
          (∀ u, (g.chan c).sel.get u = false) ∧ (∀ cut i, ((g.chan c).cutByp cut).get i = true)
            ∧ ∀ p, (g.chan c).posByp.get p = false)
      ∧ ∀ c, let k := s.chan c
        (∀ u b, k.bank u b = ⟨0x3F800000#32, 0#32, 0#32, 0#32, 0#32⟩)
          ∧ (∀ u, k.z1.get u = 0#32 ∧ k.z2.get u = 0#32) ∧ k.smpCnt = 0#16 ∧ k.wrIdx = 0#32 ∧ k.wrSnap = 0#32
          ∧ k.rdIdx = 0#32 ∧ k.sReq = false ∧ k.sReqA = false ∧ k.sAck = false ∧ k.sAckN = false
          ∧ k.popActive = false ∧ k.snapPost = false ∧ k.popValid = false ∧ k.popCnt = 0#16
          ∧ k.roll = List.replicate (2 ^ κ.log2N) 0#32 ∧ k.newAudio = false ∧ k.dbValid = false ∧ k.pathReady = false
          ∧ k.pNew = false ∧ k.heldValid = false ∧ (∀ b, k.plen.get b = 0#16) ∧ k.pBack = 0 ∧ k.pFront = 1
          ∧ k.pHeld = 2 ∧ ∀ m i, s.peek m c i = none

/-- The default configuration is legal (R9), and with a legal configuration the state after power-on satisfies every
invariant; the reset state is one of these. -/
def Obligations.ResetSatisfiesInvariants : Prop :=
  LegalConfig State.reset.config ∧ State.reset = State.initial State.reset.config
    ∧ ∀ κ : Config, LegalConfig κ →
      Inv (State.initial κ) ∧ Idle (State.initial κ) ∧ CommitInv (State.initial κ)
        ∧ (∀ c, ((State.initial κ).chan c).snapInv) ∧ Guarded (State.initial κ)

/-! ### Lifecycle and settings -/

/-- NOP completes in every state and changes nothing, and it is the word 0 on every port (R331). -/
def Obligations.NopCompletes : Prop :=
  (∀ s, ∃ t, exec .nop s = .next t ∧ t.answer = some ⟨.ok, 0#32⟩ ∧ OnlyAnswer s t)
    ∧ ∀ (p : Port) (cmd wdata : Word), decode p cmd wdata = some .nop ↔ cmd = 0x00000000#32

/-- PREPARE, with a block size of 1 to BLK_MAX, a finite sample rate from FS_MIN to FS_MAX and a quiescent block,
stores both, sets `prepared` and resets the runtime state (R334, R336); every memory keeps its words. -/
def Obligations.PrepareCompletes : Prop :=
  ∀ (s : State) (imm : BitVec 16) (w : Word), 1 ≤ imm.toNat → imm.toNat ≤ s.config.blkMax → s.inBlock = false →
    s.chans.left.popActive = false → s.chans.right.popActive = false → F32.isFinite w = true →
    F32.fle s.config.fsMin w = true → F32.fle w s.config.fsMax = true →
      ∃ t, exec (.prepare imm w) s = .next t ∧ RuntimeReset s t ∧ SameMemory s t
        ∧ t = { s with
            answer := some ⟨.ok, 0#32⟩, rFs := w, rBlk := imm, prepared := true, cfgAct := t.cfgAct, cReq := t.cReq
            cReqA := t.cReqA, cAck := t.cAck, cAckC := t.cAckC, inBlock := t.inBlock, pushEn := t.pushEn
            chans := t.chans }

/-- RESET on a quiescent block gives every element the value of `reset_runtime()` and keeps every other one, the
memories too; on a block that is not quiescent it is refused with ST_BUSY (R333, R335, R336). -/
def Obligations.ResetCompletes : Prop :=
  ∀ s : State,
    (s.inBlock = false → s.chans.left.popActive = false → s.chans.right.popActive = false →
      ∃ t, exec .reset s = .next t ∧ RuntimeReset s t ∧ SameMemory s t
        ∧ t = { s with
            answer := some ⟨.ok, 0#32⟩, cfgAct := t.cfgAct, cReq := t.cReq, cReqA := t.cReqA, cAck := t.cAck
            cAckC := t.cAckC, inBlock := t.inBlock, pushEn := t.pushEn, chans := t.chans })
    ∧ (s.inBlock = true ∨ s.chans.left.popActive = true ∨ s.chans.right.popActive = true →
      Refuses .reset s .busy)

/-- WRS of a legal value to a register 0 to 12 makes that register read as the value and leaves every other register and
element alone; a read-only register gives ST_OPERAND and an illegal value ST_RANGE, with nothing changed (R338). -/
def Obligations.WrsCompletes : Prop :=
  ∀ (s : State) (idx : BitVec 4) (w : Word),
    (idx.toNat ≤ 12 → inLegalSet s.config idx w = true →
      ∃ t, exec (.wrs idx w) s = .next t ∧ t = { s with answer := some ⟨.ok, 0#32⟩, settings := t.settings }
        ∧ t.readSetting idx = w ∧ (∀ j, j ≠ idx → t.readSetting j = s.readSetting j) ∧ SameMemory s t)
    ∧ (12 < idx.toNat → Refuses (.wrs idx w) s .operand)
    ∧ (idx.toNat ≤ 12 → inLegalSet s.config idx w = false → Refuses (.wrs idx w) s .range)

/-- RDS answers the register its `idx` names (R339, R40), `R_STAT` with the bits of R47, and changes nothing. -/
def Obligations.RdsReadsRegisters : Prop :=
  ∀ s : State, ∃ r : BitVec 4 → Word,
    (∀ idx, ∃ t, exec (.rds idx) s = .next t ∧ t.answer = some ⟨.ok, r idx⟩ ∧ OnlyAnswer s t)
    ∧ r 0#4 = s.settings.sPkFreq ∧ r 1#4 = s.settings.sPkGain ∧ r 2#4 = s.settings.sPkQ ∧ r 3#4 = s.settings.sLcFreq
    ∧ r 4#4 = s.settings.sHcFreq ∧ (r 5#4).toNat = s.settings.sLcSlope.toNat
    ∧ (r 6#4).toNat = s.settings.sHcSlope.toNat ∧ (r 7#4).toNat = s.settings.sBypass.toNat
    ∧ (r 8#4).toNat = s.settings.sAnen.toNat ∧ r 9#4 = s.settings.aFloor ∧ (r 10#4).toNat = s.settings.dW.toNat
    ∧ r 11#4 = s.settings.dYtop ∧ r 12#4 = s.settings.dYbot ∧ r 13#4 = s.rFs ∧ (r 14#4).toNat = s.rBlk.toNat
    ∧ (r 15#4).getLsbD 0 = s.prepared ∧ (r 15#4).getLsbD 1 = (s.cReq != s.cAckC)
    ∧ (r 15#4).getLsbD 2 = (s.chans.left.sReq != s.chans.left.sAckN)
    ∧ (r 15#4).getLsbD 3 = (s.chans.right.sReq != s.chans.right.sAckN)
    ∧ (r 15#4).getLsbD 4 = s.chans.left.newAudio ∧ (r 15#4).getLsbD 5 = s.chans.right.newAudio
    ∧ (r 15#4).getLsbD 6 = s.chans.left.dbValid ∧ (r 15#4).getLsbD 7 = s.chans.right.dbValid
    ∧ (r 15#4).getLsbD 8 = s.chans.left.pathReady ∧ (r 15#4).getLsbD 9 = s.chans.right.pathReady
    ∧ (r 15#4).getLsbD 10 = s.chans.left.pNew ∧ (r 15#4).getLsbD 11 = s.chans.right.pNew
    ∧ (r 15#4).getLsbD 12 = s.chans.left.heldValid ∧ (r 15#4).getLsbD 13 = s.chans.right.heldValid
    ∧ (r 15#4).getLsbD 14 = s.chans.left.popActive ∧ (r 15#4).getLsbD 15 = s.chans.right.popActive
    ∧ (r 15#4).getLsbD 16 = s.chans.left.popValid ∧ (r 15#4).getLsbD 17 = s.chans.right.popValid
    ∧ (r 15#4).extractLsb' 18 6 = 0#6 ∧ (r 15#4).extractLsb' 24 8 = 0x01#8

/-! ### Staging registers and the factory -/

/-- WRC of a finite word to a staging register 0 to 4 stores it there and nowhere else, RDC answers the register; a
register above 4 gives ST_OPERAND, a word that is not finite ST_RANGE, with nothing changed (R152, R153). -/
def Obligations.WrcAndRdcComplete : Prop :=
  ∀ (s : State) (idx : BitVec 4) (w : Word),
    (idx.toNat ≤ 4 → F32.isFinite w = true →
      ∃ t, exec (.wrc idx w) s = .next t ∧ t = { s with answer := some ⟨.ok, 0#32⟩, cst := t.cst }
        ∧ (∀ k : Fin 5, t.cst.get k = if k.val = idx.toNat then w else s.cst.get k) ∧ SameMemory s t)
    ∧ (idx.toNat ≤ 4 → F32.isFinite w = false → Refuses (.wrc idx w) s .range)
    ∧ (4 < idx.toNat → Refuses (.wrc idx w) s .operand)
    ∧ (∀ k : Fin 5, k.val = idx.toNat →
      ∃ t, exec (.rdc idx) s = .next t ∧ t.answer = some ⟨.ok, s.cst.get k⟩ ∧ OnlyAnswer s t)
    ∧ (4 < idx.toNat → Refuses (.rdc idx) s .operand)

/-- FACPK on a prepared block writes the five staging registers and nothing else: with the clamped evaluation of R157
when the settings are in its domain, with the identity block when they are not (R156). -/
def Obligations.FacpkCompletes : Prop :=
  ∀ s : State,
    let f := s.settings.sPkFreq
    let g := s.settings.sPkGain
    let q := s.settings.sPkQ
    let inDomain := F32.isFinite f = true ∧ F32.isFinite g = true ∧ F32.isFinite q = true ∧ F32.isFinite s.rFs = true
      ∧ F32.fgt f 0x00000000#32 = true ∧ F32.fgt q 0x00000000#32 = true
      ∧ F32.flt f (F32.fmul (s.nan 0) 0x3F000000#32 s.rFs) = true
    (s.prepared = true →
      ∃ t, exec .facpk s = .next t ∧ t = { s with answer := some ⟨.ok, 0#32⟩, cst := t.cst } ∧ SameMemory s t
        ∧ (inDomain → t.cst = finalize (peakCoef (s.nan 0) f g q s.rFs)) ∧ (¬inDomain → t.cst = Coef.ident))
    ∧ (s.prepared = false → Refuses .facpk s .notPrep)

/-- FACLC and FACHC, for a section up to the slope code of their own cut filter and on a prepared block, write the five
staging registers and nothing else: with the clamped evaluation of R161 or R165 for a cutoff in the domain, with the
identity block otherwise; a section above the slope code gives ST_OPERAND (R160, R164). -/
def Obligations.FaclcAndFachcComplete : Prop :=
  ∀ (s : State) (imm : BitVec 16),
    let i := imm.toNat % 4
    let below := fun fc : Word => F32.isFinite fc = true ∧ F32.isFinite s.rFs = true ∧ F32.fgt fc 0x00000000#32 = true
      ∧ F32.flt fc (F32.fmul (s.nan 0) 0x3F000000#32 s.rFs) = true
    (i ≤ s.settings.sLcSlope.toNat → s.prepared = true →
      ∃ t, exec (.faclc imm) s = .next t ∧ t = { s with answer := some ⟨.ok, 0#32⟩, cst := t.cst } ∧ SameMemory s t
        ∧ (below s.settings.sLcFreq →
          t.cst = finalize (highPassCoef (s.nan 0) s.settings.sLcFreq s.rFs (invQ s.settings.sLcSlope.toNat i)))
        ∧ (¬below s.settings.sLcFreq → t.cst = Coef.ident))
    ∧ (i ≤ s.settings.sHcSlope.toNat → s.prepared = true →
      ∃ t, exec (.fachc imm) s = .next t ∧ t = { s with answer := some ⟨.ok, 0#32⟩, cst := t.cst } ∧ SameMemory s t
        ∧ (below s.settings.sHcFreq →
          t.cst = finalize (lowPassCoef (s.nan 0) s.settings.sHcFreq s.rFs (invQ s.settings.sHcSlope.toNat i)))
        ∧ (¬below s.settings.sHcFreq → t.cst = Coef.ident))
    ∧ (s.settings.sLcSlope.toNat < i → Refuses (.faclc imm) s .operand)
    ∧ (s.settings.sHcSlope.toNat < i → Refuses (.fachc imm) s .operand)

/-- A factory command that answers ST_OK leaves five finite staging words, whatever the numeric functions return; a
block with a word that is not finite is replaced whole by the identity block (R151). -/
def Obligations.FactoryEmitsFiniteBlocks : Prop :=
  (∀ (s t : State) (i : Instr) (w : Word), (i = .facpk ∨ (∃ imm, i = .faclc imm) ∨ ∃ imm, i = .fachc imm) →
      exec i s = .next t → t.answer = some ⟨.ok, w⟩ → ∀ k, F32.isFinite (t.cst.get k) = true)
    ∧ ∀ k : Coef, ((∀ j, F32.isFinite (k.get j) = true) → finalize k = k)
      ∧ ((∃ j, F32.isFinite (k.get j) = false) → finalize k = Coef.ident)

/-- At a gain of plus or minus zero, FACPK leaves a block whose numerator is its denominator, bit for bit, whatever the
numeric functions return (R156). -/
def Obligations.PeakAtZeroGainIsUnity : Prop :=
  ∀ s : State, s.prepared = true → (s.settings.sPkGain = 0x00000000#32 ∨ s.settings.sPkGain = 0x80000000#32) →
    ∃ t, exec .facpk s = .next t ∧ t.cst.b0 = 0x3F800000#32 ∧ t.cst.b1 = t.cst.a1 ∧ t.cst.b2 = t.cst.a2

/-- A cut section has b2 = b0, and b1 is b0 times -2 (low-cut) or 2 (high-cut), whatever the tangent returns; the
products are exact wherever they are finite (R161, R165). -/
def Obligations.CutSectionsHaveExactZeros : Prop :=
  (∀ ν fc fs iq : Word,
    (highPassCoef ν fc fs iq).b2 = (highPassCoef ν fc fs iq).b0
      ∧ (highPassCoef ν fc fs iq).b1 = F32.fmul ν 0xC0000000#32 (highPassCoef ν fc fs iq).b0
      ∧ (lowPassCoef ν fc fs iq).b2 = (lowPassCoef ν fc fs iq).b0
      ∧ (lowPassCoef ν fc fs iq).b1 = F32.fmul ν 0x40000000#32 (lowPassCoef ν fc fs iq).b0)
    ∧ ∀ ν b : Word, F32.isFinite b = true →
      (F32.isFinite (F32.fmul ν 0x40000000#32 b) = true → value (F32.fmul ν 0x40000000#32 b) = 2 * value b)
      ∧ (F32.isFinite (F32.fmul ν 0xC0000000#32 b) = true → value (F32.fmul ν 0xC0000000#32 b) = -2 * value b)

/-- The sign and payload of a NaN that arises inside a factory command or a transform never reach its result (R16): the
blocks and the decibel values are the same for every two draws (the draws are the model's own, logs 3 and 4). -/
def Obligations.NanDrawsNeverShow : Prop :=
  (∀ ν ν' f g q fs : Word, peakBlock ν f g q fs = peakBlock ν' f g q fs)
    ∧ (∀ ν ν' fc fs iq : Word, lowCutBlock ν fc fs iq = lowCutBlock ν' fc fs iq
      ∧ highCutBlock ν fc fs iq = highCutBlock ν' fc fs iq)
    ∧ ∀ (κ : Config) (ν ν' floor : Word) (roll : List Word), spectrum κ ν floor roll = spectrum κ ν' floor roll

/-! ### Filter chain control -/

/-- SETCOEF, while no commit is pending, writes the staging registers to the bank that the posted configuration does not
select and makes the shadow configuration select it; every other block, select bit and element is unchanged. While a
commit is pending it is refused with ST_BUSY (R186). -/
def Obligations.SetcoefCompletes : Prop :=
  ∀ (s : State) (c : Channel) (idx : BitVec 4) (u : Fin 9), idx.toNat = u.val →
    let b := !(s.cfgPosted.chan c).sel.get u
    (s.cReq = s.cAckC →
      ∃ t, exec (.setcoef c.code idx) s = .next t
        ∧ t = { s with
            answer := some ⟨.ok, 0#32⟩, chans := s.chans.set c { s.chan c with banks := (t.chan c).banks }
            cfgSh := s.cfgSh.setChan c { s.cfgSh.chan c with sel := (t.cfgSh.chan c).sel } }
        ∧ (t.chan c).bank u b = s.cst
        ∧ (∀ v d, ¬(v = u ∧ d = b) → (t.chan c).bank v d = (s.chan c).bank v d)
        ∧ (∀ v, (t.cfgSh.chan c).sel.get v = if v = u then b else (s.cfgSh.chan c).sel.get v)
        ∧ t.fresh c u = true ∧ SameMemory s t)
    ∧ (s.cReq ≠ s.cAckC → Refuses (.setcoef c.code idx) s .busy)

/-- CUTCFG with slope code S, when stages 0 to S of the cut filter are fresh, enables exactly these in the shadow
configuration and bypasses the other stages of the cut, whatever their bypass bits were, and changes nothing else; with
a stage of these that is not fresh it is refused with ST_STALE, at the peak position with ST_OPERAND (R188). -/
def Obligations.CutcfgCompletes : Prop :=
  ∀ (s : State) (c : Channel) (cut : Cut) (imm : BitVec 16),
    ((∀ j : Fin 4, j.val ≤ imm.toNat % 4 → s.fresh c (cut.stage j) = true) →
      ∃ t, exec (.cutcfg c.code cut.code imm) s = .next t
        ∧ t = { s with
            answer := some ⟨.ok, 0#32⟩
            cfgSh := s.cfgSh.setChan c ((s.cfgSh.chan c).setCutByp cut ((t.cfgSh.chan c).cutByp cut)) }
        ∧ (∀ j : Fin 4, ((t.cfgSh.chan c).cutByp cut).get j = decide (imm.toNat % 4 < j.val)) ∧ SameMemory s t)
    ∧ ((∃ j : Fin 4, j.val ≤ imm.toNat % 4 ∧ s.fresh c (cut.stage j) = false) →
      Refuses (.cutcfg c.code cut.code imm) s .stale)
    ∧ Refuses (.cutcfg c.code 1#4 imm) s .operand

/-- POSBYP writes one position bypass bit of the shadow configuration, ANEN its analyzer enable; nothing else changes,
`S_ANEN` too (R190, R191). -/
def Obligations.PosbypAndAnenComplete : Prop :=
  ∀ (s : State) (imm : BitVec 16),
    (∀ (c : Channel) (idx : BitVec 4) (p : Fin 3), idx.toNat = p.val →
      ∃ t, exec (.posbyp c.code idx imm) s = .next t
        ∧ t = { s with
            answer := some ⟨.ok, 0#32⟩
            cfgSh := s.cfgSh.setChan c { s.cfgSh.chan c with posByp := (t.cfgSh.chan c).posByp } }
        ∧ (∀ q, (t.cfgSh.chan c).posByp.get q = if q = p then imm.getLsbD 0 else (s.cfgSh.chan c).posByp.get q)
        ∧ SameMemory s t)
    ∧ (∀ ch idx : BitVec 4, 1 < ch.toNat ∨ 2 < idx.toNat → Refuses (.posbyp ch idx imm) s .operand)
    ∧ ∃ t, exec (.anen imm) s = .next t
      ∧ t = { s with answer := some ⟨.ok, 0#32⟩, cfgSh := { s.cfgSh with anEn := imm.getLsbD 0 } } ∧ SameMemory s t

/-- COMMIT, while none is pending, posts the shadow configuration, toggles the request, which makes a commit pending and
no stage fresh, and changes nothing else; while one is pending it is refused with ST_BUSY (R192). -/
def Obligations.CommitCompletes : Prop :=
  ∀ s : State,
    (s.cReq = s.cAckC →
      ∃ t, exec .commit s = .next t
        ∧ t = { s with answer := some ⟨.ok, 0#32⟩, cfgPosted := s.cfgSh, cReq := !s.cReq }
        ∧ t.commitPending = true ∧ (∀ c u, t.fresh c u = false) ∧ SameMemory s t)
    ∧ (s.cReq ≠ s.cAckC → Refuses .commit s .busy)

/-- RDCOEF answers word k of the bank that the posted (`imm[4]` = 0) or the shadow configuration selects, RDCFG the
configuration packed as R56 says; neither changes anything (R196, R197). -/
def Obligations.RdcoefAndRdcfgComplete : Prop :=
  ∀ (s : State) (c : Channel) (imm : BitVec 16),
    (∀ (idx : BitVec 4) (u : Fin 9) (k : Fin 5), idx.toNat = u.val → imm.toNat % 8 = k.val →
      ∃ t, exec (.rdcoef c.code idx imm) s = .next t ∧ OnlyAnswer s t
        ∧ (imm.getLsbD 4 = false →
          t.answer = some ⟨.ok, ((s.chan c).bank u ((s.cfgPosted.chan c).sel.get u)).get k⟩)
        ∧ (imm.getLsbD 4 = true →
          t.answer = some ⟨.ok, ((s.chan c).bank u ((s.cfgSh.chan c).sel.get u)).get k⟩))
    ∧ ∃ t r, exec (.rdcfg c.code imm) s = .next t ∧ OnlyAnswer s t ∧ t.answer = some ⟨.ok, r⟩
      ∧ let g := if imm.getLsbD 0 = true then s.cfgSh else s.cfgPosted
        (∀ u : Fin 9, r.getLsbD u.val = (g.chan c).sel.get u)
          ∧ (∀ i : Fin 4, r.getLsbD (9 + i.val) = (g.chan c).lcByp.get i
            ∧ r.getLsbD (13 + i.val) = (g.chan c).hcByp.get i)
          ∧ (∀ p : Fin 3, r.getLsbD (17 + p.val) = (g.chan c).posByp.get p) ∧ r.getLsbD 20 = g.anEn
          ∧ ∀ n, 21 ≤ n → r.getLsbD n = false

/-! ### Audio processing -/

/-- BLKBEG on a prepared block with no block open opens one: both sample counts 0, the posted configuration adopted and
acknowledged when its request is visible, `push_en` the analyzer enable of the configuration then active; nothing else
changes. It is refused with ST_NOTPREP, then with ST_SEQ (R214). -/
def Obligations.BlkbegCompletes : Prop :=
  ∀ s : State,
    (s.prepared = true → s.inBlock = false →
      ∃ t, exec .blkbeg s = .next t
        ∧ t = { s with
            answer := some ⟨.ok, 0#32⟩, cfgAct := t.cfgAct, cAck := t.cAck, inBlock := true, pushEn := t.cfgAct.anEn
            chans := t.chans }
        ∧ (∀ c, t.chan c = { s.chan c with smpCnt := 0#16 })
        ∧ (s.cReqA ≠ s.cAck → t.cfgAct = s.cfgPosted ∧ t.cAck = s.cReqA)
        ∧ (s.cReqA = s.cAck → t.cfgAct = s.cfgAct ∧ t.cAck = s.cAck) ∧ SameMemory s t)
    ∧ (s.prepared = false → Refuses .blkbeg s .notPrep)
    ∧ (s.prepared = true → s.inBlock = true → Refuses .blkbeg s .seq)

/-- SMP on an open block with samples to come runs the enabled stages of the active configuration on the sample in the
order of R212, each as R217 says, answers the output, counts the sample and, when the block is pushed, stores the output
at the sample's place of the current slot; delay words of stages that are not enabled, every other memory word and every
other element are unchanged (R216, R219). -/
def Obligations.SmpCompletes : Prop :=
  ∀ (s : State) (c : Channel) (x : Word), s.prepared = true → s.inBlock = true →
    (s.chan c).smpCnt.toNat < s.rBlk.toNat →
      let k := s.chan c
      let g := s.cfgAct.chan c
      let f := (enabledStages g).foldl (stageOn s.nan k g) ⟨x, k.z1, k.z2⟩
      ∃ t, exec (.smp c.code x) s = .next t
        ∧ t = { s with
            answer := some ⟨.ok, f.v⟩
            chans := s.chans.set c { k with
              z1 := f.z1, z2 := f.z2, slot := (t.chan c).slot, smpCnt := k.smpCnt + 1#16 } }
        ∧ (∀ u, u ∉ enabledStages g → f.z1.get u = k.z1.get u ∧ f.z2.get u = k.z2.get u)
        ∧ (s.pushEn = false → SameMemory s t)
        ∧ (s.pushEn = true → t.peek .slot c (slotIndex s.config k.wrIdx k.smpCnt.toNat) = some f.v
          ∧ SameMemoryBut s t .slot c fun i => i = slotIndex s.config k.wrIdx k.smpCnt.toNat)

/-- With every position bypassed, or every stage of every other position, SMP answers its input bit for bit and leaves
every delay word alone (R216). -/
def Obligations.SmpBypassedIsIdentity : Prop :=
  ∀ (s : State) (c : Channel) (x : Word), s.prepared = true → s.inBlock = true →
    (s.chan c).smpCnt.toNat < s.rBlk.toNat →
    (∀ u, (s.cfgAct.chan c).posByp.get (positionOfStage u) = true ∨ (s.cfgAct.chan c).stageByp u = true) →
      ∃ t, exec (.smp c.code x) s = .next t ∧ t.answer = some ⟨.ok, x⟩
        ∧ (t.chan c).z1 = (s.chan c).z1 ∧ (t.chan c).z2 = (s.chan c).z2

/-- A stage that holds the identity block and whose delay words are zeros of either sign answers every finite input
other than a zero bit for bit, a zero as a zero, which compares equal, and keeps its delay words zeros; an infinite or
NaN input makes the delay words NaN (R218). -/
def Obligations.IdentityStageReturnsItsInput : Prop :=
  ∀ (ν : Nat → Word) (x z1 z2 : Word),
    let r := biquad ν Coef.ident x z1 z2
    (F32.isFinite x = true → F32.isZero z1 = true → F32.isZero z2 = true →
      (F32.isZero x = false → r.1 = x) ∧ (F32.isZero x = true → F32.isZero r.1 = true) ∧ F32.feq r.1 x = true
        ∧ F32.isZero r.2.1 = true ∧ F32.isZero r.2.2 = true)
    ∧ (F32.isFinite x = false → F32.isNaN r.2.1 = true ∧ F32.isNaN r.2.2 = true)

/-- The two channels' samples commute: in either order each gets the same answer and the same state results (R223). -/
def Obligations.ChannelsAreIndependent : Prop :=
  ∀ (s : State) (x y : Word), s.prepared = true → s.inBlock = true →
    s.chans.left.smpCnt.toNat < s.rBlk.toNat → s.chans.right.smpCnt.toNat < s.rBlk.toNat →
      ∃ a b t u, exec (.smp 0#4 x) s = .next a ∧ exec (.smp 1#4 y) a = .next t
        ∧ exec (.smp 1#4 y) s = .next b ∧ exec (.smp 0#4 x) b = .next u
        ∧ u.answer = a.answer ∧ t.answer = b.answer ∧ u = { t with answer := a.answer }

/-- BLKEND on an open block with all its samples closes it and, when it is pushed, moves both write indices on by one
modulo 2^32; nothing else changes. It is refused with ST_NOTPREP, then with ST_SEQ (R220). -/
def Obligations.BlkendCompletes : Prop :=
  ∀ s : State,
    (s.prepared = true → s.inBlock = true → s.chans.left.smpCnt = s.rBlk → s.chans.right.smpCnt = s.rBlk →
      ∃ t, exec .blkend s = .next t
        ∧ t = { s with answer := some ⟨.ok, 0#32⟩, inBlock := false, chans := t.chans }
        ∧ (∀ c, t.chan c = { s.chan c with
            wrIdx := if s.pushEn = true then (s.chan c).wrIdx + 1#32 else (s.chan c).wrIdx })
        ∧ SameMemory s t)
    ∧ (s.prepared = false → Refuses .blkend s .notPrep)
    ∧ (s.prepared = true → s.inBlock = false ∨ s.chans.left.smpCnt ≠ s.rBlk ∨ s.chans.right.smpCnt ≠ s.rBlk →
      Refuses .blkend s .seq)

/-! ### The sample FIFO -/

/-- FSNAP on an idle handshake toggles the request and marks that a snapshot was asked for; FAVAIL on an idle handshake
answers the blocks between the snapshot and the read index, at most FIFO_CAP - 1; nothing else changes. While a
snapshot is pending both are refused with ST_BUSY (R248, R250). -/
def Obligations.FsnapAndFavailComplete : Prop :=
  ∀ (s : State) (c : Channel),
    let k := s.chan c
    (k.sReq = k.sAckN →
      (∃ t, exec (.fsnap c.code) s = .next t ∧ SameMemory s t
        ∧ t = { s with
            answer := some ⟨.ok, 0#32⟩, chans := s.chans.set c { k with sReq := !k.sReq, snapPost := true } })
      ∧ ∃ t r, exec (.favail c.code) s = .next t ∧ OnlyAnswer s t ∧ t.answer = some ⟨.ok, r⟩
        ∧ r.toNat = min (k.wrSnap - k.rdIdx).toNat (s.config.fifoCap - 1))
    ∧ (k.sReq ≠ k.sAckN → Refuses (.fsnap c.code) s .busy ∧ Refuses (.favail c.code) s .busy)

/-- FPOPB, on a prepared block with the analyzer enabled, no pop open and an idle handshake, opens a pop when 1 to
FIFO_CAP - 1 blocks are available; it is refused with ST_EMPTY when none is; and with more it answers ST_OVERRUN with
the number of blocks given up and moves the read index to the oldest block certainly intact. Nothing else changes
(R251). -/
def Obligations.FpopbCompletes : Prop :=
  ∀ (s : State) (c : Channel),
    let k := s.chan c
    let a := k.wrSnap - k.rdIdx
    let most := BitVec.ofNat 32 (s.config.fifoCap - 1)
    s.prepared = true → s.settings.sAnen = 1#1 → k.popActive = false → k.sReq = k.sAckN →
      (1 ≤ a.toNat → a.toNat ≤ s.config.fifoCap - 1 →
        ∃ t, exec (.fpopb c.code) s = .next t ∧ SameMemory s t
          ∧ t = { s with
              answer := some ⟨.ok, a⟩
              chans := s.chans.set c { k with
                popActive := true, popCnt := 0#16, snapPost := false, popValid := false } })
      ∧ (a.toNat = 0 → Refuses (.fpopb c.code) s .empty)
      ∧ (s.config.fifoCap ≤ a.toNat →
        ∃ t, exec (.fpopb c.code) s = .next t ∧ SameMemory s t
          ∧ t = { s with
              answer := some ⟨.overrun, a - most⟩, chans := s.chans.set c { k with rdIdx := k.wrSnap - most } })

/-- FRD in an open pop with words to come answers the next word of the slot of the read index, stores it as the next
word of the pop buffer, counts it and forgets an earlier snapshot request; every other word and element is unchanged.
Outside a pop and after the last word it is refused with ST_SEQ (R252). -/
def Obligations.FrdCompletes : Prop :=
  ∀ (s : State) (c : Channel),
    let k := s.chan c
    (∀ w, k.popActive = true → k.popCnt.toNat < s.rBlk.toNat →
      s.peek .slot c (slotIndex s.config k.rdIdx k.popCnt.toNat) = some w →
        ∃ t, exec (.frd c.code) s = .next t
          ∧ t = { s with
              answer := some ⟨.ok, w⟩
              chans := s.chans.set c { k with
                popBuf := (t.chan c).popBuf, popCnt := k.popCnt + 1#16, snapPost := false } }
          ∧ t.peek .popBuf c k.popCnt.toNat = some w ∧ SameMemoryBut s t .popBuf c fun i => i = k.popCnt.toNat)
    ∧ (k.popActive = false ∨ s.rBlk.toNat ≤ k.popCnt.toNat → Refuses (.frd c.code) s .seq)

/-- FPOPE, in a pop whose words are all read and whose last snapshot was asked for after them and is complete, closes
the pop: with at most FIFO_CAP - 1 blocks between it and the read index the block is valid and the read index moves on
by one; with more it answers ST_OVERRUN with the number of blocks given up and skips to the oldest block certainly
intact. Nothing else changes. It is refused with ST_SEQ, then with ST_BUSY (R253). -/
def Obligations.FpopeCompletes : Prop :=
  ∀ (s : State) (c : Channel),
    let k := s.chan c
    let a := k.wrSnap - k.rdIdx
    let most := BitVec.ofNat 32 (s.config.fifoCap - 1)
    (k.popActive = true → k.popCnt = s.rBlk → k.snapPost = true → k.sReq = k.sAckN →
      (a.toNat ≤ s.config.fifoCap - 1 →
        ∃ t, exec (.fpope c.code) s = .next t ∧ SameMemory s t
          ∧ t = { s with
              answer := some ⟨.ok, a - 1#32⟩
              chans := s.chans.set c { k with popActive := false, rdIdx := k.rdIdx + 1#32, popValid := true } })
      ∧ (s.config.fifoCap - 1 < a.toNat →
        ∃ t, exec (.fpope c.code) s = .next t ∧ SameMemory s t
          ∧ t = { s with
              answer := some ⟨.overrun, a - most⟩
              chans := s.chans.set c { k with
                popActive := false, rdIdx := k.wrSnap - most, popValid := false } }))
    ∧ (k.popActive = false ∨ k.popCnt ≠ s.rBlk ∨ k.snapPost = false → Refuses (.fpope c.code) s .seq)
    ∧ (k.popActive = true → k.popCnt = s.rBlk → k.snapPost = true → k.sReq ≠ k.sAckN →
      Refuses (.fpope c.code) s .busy)

/-! ### The analyzer and the path queue -/

/-- ACCUM shifts the rolling buffer left by one block and appends the validated block word for word, consumes it and
marks new audio; no memory word and nothing else changes (R283). -/
def Obligations.AccumCompletes : Prop :=
  ∀ (s : State) (c : Channel),
    let k := s.chan c
    let B := s.rBlk.toNat
    let N := s.config.fftN
    s.prepared = true → s.settings.sAnen = 1#1 → k.popValid = true → k.roll.length = N → B ≤ N →
    Written k.popBuf 0 B →
      ∃ t, exec (.accum c.code) s = .next t ∧ SameMemory s t
        ∧ t = { s with
            answer := some ⟨.ok, 0#32⟩
            chans := s.chans.set c { k with roll := (t.chan c).roll, popValid := false, newAudio := true } }
        ∧ (t.chan c).roll.length = N ∧ (∀ n, n + B < N → (t.chan c).roll[n]? = k.roll[n + B]?)
        ∧ ∀ i, i < B → (t.chan c).roll[N - B + i]? = s.peek .popBuf c i

/-- XFORM makes bin k of `db`, for k below FFT_N / 2, the clamped decibel value of output k of the configured transform
of the windowed rolling buffer, with the floor in force, consumes the new audio and makes the bins valid; every other
word and element is unchanged (R285, R292). -/
def Obligations.XformCompletes : Prop :=
  ∀ (s : State) (c : Channel),
    let k := s.chan c
    s.prepared = true → s.settings.sAnen = 1#1 → k.newAudio = true →
      ∃ t, exec (.xform c.code) s = .next t
        ∧ t = { s with
            answer := some ⟨.ok, 0#32⟩
            chans := s.chans.set c { k with db := (t.chan c).db, newAudio := false, dbValid := true } }
        ∧ (∀ n, n < s.config.fftN / 2 → ∃ x,
          (transform s.config (s.nan 0) (List.zipWith (F32.fmul (s.nan 0)) k.roll s.config.win))[n]? = some x
          ∧ t.peek .db c n = some (magDb s.config (s.nan 0) s.settings.aFloor x))
        ∧ SameMemoryBut s t .db c fun i => i < s.config.fftN / 2

/-- The default transform is that of R290: where it is configured, each output is the value its index has after the
LOG2N passes of butterflies over the bit-reversed input. -/
def Obligations.TransformFollowsButterflies : Prop :=
  ∀ (κ : Config) (ν : Word) (u : List Word), κ.fft = .standard → ∀ k, k < κ.fftN →
    (transform κ ν u)[k]? = some (afterPasses κ ν (fun n => u.getD n 0#32) κ.log2N k)

/-- After an XFORM every bin is a number not below the floor in force, and it is finite unless the squared magnitude `p`
of its output of the transform overflowed (R292, R294). -/
def Obligations.BinsAreNotBelowTheFloor : Prop :=
  ∀ (s : State) (c : Channel), s.prepared = true → s.settings.sAnen = 1#1 → (s.chan c).newAudio = true →
    F32.isFinite s.settings.aFloor = true →
      let ν := s.nan 0
      ∃ t, exec (.xform c.code) s = .next t ∧ ∀ n, n < s.config.fftN / 2 →
        ∃ d x, t.peek .db c n = some d ∧ F32.isNaN d = false ∧ F32.fle s.settings.aFloor d = true
          ∧ (transform s.config ν (List.zipWith (F32.fmul ν) (s.chan c).roll s.config.win))[n]? = some x
          ∧ (F32.isInf (F32.fadd ν (F32.fmul ν x.re x.re) (F32.fmul ν x.im x.im)) = false → F32.isFinite d = true)

/-- XFORM of silence, words that are zeros of either sign, makes every bin the floor, whatever the configured transform
(R285, P-FFT-ZERO of R291); that a legal configuration's tables hold finite words is the model's reading, log 6. -/
def Obligations.SilenceReadsTheFloor : Prop :=
  ∀ (s : State) (c : Channel), s.prepared = true → s.settings.sAnen = 1#1 → (s.chan c).newAudio = true →
    LegalConfig s.config → (∀ w ∈ (s.chan c).roll, F32.isZero w = true) →
      ∃ t, exec (.xform c.code) s = .next t ∧ ∀ n, n < s.config.fftN / 2 → t.peek .db c n = some s.settings.aFloor

/-- RDBIN answers a valid bin and PRD a column of the held path, and neither changes anything; RDBIN is refused with
ST_OPERAND above bin FFT_N / 2 - 1, PRD from the held path's length on, and both with ST_EMPTY when there is nothing to
read (R293, R313). -/
def Obligations.RdbinAndPrdComplete : Prop :=
  ∀ (s : State) (c : Channel) (imm : BitVec 16),
    let k := s.chan c
    (∀ w, imm.toNat ≤ s.config.nBin - 1 → k.dbValid = true → s.peek .db c imm.toNat = some w →
      ∃ t, exec (.rdbin c.code imm) s = .next t ∧ t.answer = some ⟨.ok, w⟩ ∧ OnlyAnswer s t)
    ∧ (s.config.nBin - 1 < imm.toNat → Refuses (.rdbin c.code imm) s .operand)
    ∧ (imm.toNat ≤ s.config.nBin - 1 → k.dbValid = false → Refuses (.rdbin c.code imm) s .empty)
    ∧ (∀ w, k.heldValid = true → imm.toNat < (k.plen.get k.pHeld).toNat →
      s.peek .pbuf c (pathIndex k.pHeld imm.toNat) = some w →
        ∃ t, exec (.prd c.code imm) s = .next t ∧ t.answer = some ⟨.ok, w⟩ ∧ OnlyAnswer s t)
    ∧ (k.heldValid = true → (k.plen.get k.pHeld).toNat ≤ imm.toNat → Refuses (.prd c.code imm) s .operand)
    ∧ (k.heldValid = false → Refuses (.prd c.code imm) s .empty)

/-- MAP, with a legal configuration (the invariant of R9 and log 6) and valid bins, writes word x of the back buffer,
for every column x of the display, as the display coordinate of the column's decibel value, and sets the buffer's
length and that a path is ready; every other word and element is unchanged (R299). -/
def Obligations.MapCompletes : Prop :=
  ∀ (s : State) (c : Channel),
    let k := s.chan c
    let W := s.settings.dW.toNat
    s.prepared = true → s.settings.sAnen = 1#1 → k.dbValid = true → LegalConfig s.config →
    Written k.db 0 s.config.nBin → 2 ≤ W → F32.isFinite s.rFs = true → F32.fgt s.rFs 0x00000000#32 = true →
      ∃ t, exec (.map c.code) s = .next t
        ∧ t = { s with
            answer := some ⟨.ok, 0#32⟩
            chans := s.chans.set c { k with
              pbuf := (t.chan c).pbuf, plen := (t.chan c).plen, pathReady := true } }
        ∧ (∀ b, (t.chan c).plen.get b = if b = k.pBack then s.settings.dW else k.plen.get b)
        ∧ (∀ x, x < W → ∃ d, columnValue k.db s.settings.aFloor (colRange s.config x W s.rFs) = some d
          ∧ t.peek .pbuf c (pathIndex k.pBack x) = some (yMap (fun j => s.nan (8 * x + j)) s.settings d))
        ∧ SameMemoryBut s t .pbuf c fun i => pathIndex k.pBack 0 ≤ i ∧ i < pathIndex k.pBack W

/-- The decibel value of a column is the floor where the column shows no bin; otherwise, over bins that are numbers, it
is the floor or one of the bins, not below the floor and not below any of the bins (R299). -/
def Obligations.ColumnShowsItsLargestBin : Prop :=
  ∀ (db : Memory) (floor : Word), F32.isFinite floor = true →
    columnValue db floor none = some floor
    ∧ ∀ (lo hi : Nat) (v : Nat → Word), lo ≤ hi →
      (∀ k, lo ≤ k → k ≤ hi → Memory.read db k = some (v k) ∧ F32.isNaN (v k) = false) →
        ∃ d, columnValue db floor (some (lo, hi)) = some d ∧ (d = floor ∨ ∃ k, lo ≤ k ∧ k ≤ hi ∧ d = v k)
          ∧ F32.fle floor d = true ∧ ∀ k, lo ≤ k → k ≤ hi → F32.fle (v k) d = true

/-- Where the ideal column table is configured, it is the ideal definition of R296 over the real numbers, for every
column, width and sample rate; and every configured table has the named properties of R296: P-COL-RANGE, P-COL-MONO and
P-COL-COVER (that the reset state has the ideal one is the model's choice, log 9). -/
def Obligations.ColumnTableIsIdeal : Prop :=
  ∀ (κ : Config) (W : Nat) (fs : Word), LegalConfig κ → 2 ≤ W → F32.isFinite fs = true →
    F32.fgt fs 0x00000000#32 = true →
      (κ.colRange = .ideal → ∀ x, x < W →
        (colRange κ x W fs).map (fun r => ((r.1 : ℤ), (r.2 : ℤ))) = idealRange κ x W (value fs))
      ∧ (∀ x lo hi, x < W → colRange κ x W fs = some (lo, hi) → lo ≤ hi ∧ hi ≤ κ.nBin - 1)
      ∧ (∀ x y, x < y → y < W →
        (∀ r q, colRange κ x W fs = some r → colRange κ y W fs = some q → r.1 ≤ q.1 ∧ r.2 ≤ q.2)
        ∧ (colRange κ x W fs = none → colRange κ y W fs = none))
      ∧ ∀ x k : Nat, x < W → k ≤ κ.nBin - 1 →
        columnFrequency (x - 1 / 2) W ≤ k * value fs / κ.fftN →
        k * value fs / κ.fftN < columnFrequency (x + 1 / 2) W →
          ∃ y lo hi, y < W ∧ y ≤ x + 1 ∧ x ≤ y + 1 ∧ colRange κ y W fs = some (lo, hi) ∧ lo ≤ k ∧ k ≤ hi

/-- PUBLISH swaps the back and the front buffer and marks a new path; PTAKE swaps the held and the front buffer, answers
the length of the path taken and marks it held; nothing else changes. Without a ready path and without a new path they
are refused with ST_EMPTY (R302, R312). -/
def Obligations.PublishAndPtakeComplete : Prop :=
  ∀ (s : State) (c : Channel),
    let k := s.chan c
    (s.prepared = true → s.settings.sAnen = 1#1 →
      (k.pathReady = true →
        ∃ t, exec (.publish c.code) s = .next t ∧ SameMemory s t
          ∧ t = { s with
              answer := some ⟨.ok, 0#32⟩
              chans := s.chans.set c { k with
                pBack := k.pFront, pFront := k.pBack, pNew := true, pathReady := false } })
      ∧ (k.pathReady = false → Refuses (.publish c.code) s .empty))
    ∧ (k.pNew = true →
      ∃ t r, exec (.ptake c.code) s = .next t ∧ SameMemory s t ∧ r.toNat = (k.plen.get k.pFront).toNat
        ∧ t = { s with
            answer := some ⟨.ok, r⟩
            chans := s.chans.set c { k with
              pHeld := k.pFront, pFront := k.pHeld, pNew := false, heldValid := true } })
    ∧ (k.pNew = false → Refuses (.ptake c.code) s .empty)

/-- No command of the ANA port changes a word of the path buffer that REN holds, nor that buffer's length, number or
flag (R110). -/
def Obligations.HeldPathIsNotWritten : Prop :=
  ∀ (s t : State) (i : Instr), Inv s → i.port? = some .ana → exec i s = .next t → ∀ c,
    let k := s.chan c
    (t.chan c).pHeld = k.pHeld ∧ (t.chan c).heldValid = k.heldValid
      ∧ (t.chan c).plen.get k.pHeld = k.plen.get k.pHeld
      ∧ ∀ x, x < 2 ^ 16 → t.peek .pbuf c (pathIndex k.pHeld x) = s.peek .pbuf c (pathIndex k.pHeld x)

/-! ### Rules over all commands -/

/-- Every answer carries the first status, in the order of R363, whose cause the rules of `60_exceptions.md` give for
the command in that state, and ST_OK when none applies; a command that ends in a fault (log 10) would have answered
ST_OK. -/
def Obligations.StatusFollowsPriority : Prop :=
  ∀ (i : Instr) (s : State),
    (∀ t, exec i s = .next t → ∃ w, t.answer = some ⟨reported i s, w⟩)
    ∧ (∀ f, exec i s = .fault f → reported i s = .ok) ∧ ∀ r, exec i s ≠ .refused r

/-- A command that answers a status other than ST_OK changes nothing, but for ST_OVERRUN from FPOPB, which moves the
read index past the lost blocks, and from FPOPE, which also closes the pop and clears `pop_valid` (R362); with a status
other than these two it answers `rdata` 0 (R361); and no command of the AUD port answers ST_BUSY (R374). -/
def Obligations.RefusalChangesNothing : Prop :=
  ∀ (i : Instr) (s t : State) (a : Answer), exec i s = .next t → t.answer = some a → a.status ≠ .ok →
    let most := BitVec.ofNat 32 (s.config.fifoCap - 1)
    (a.status ≠ .overrun → a.rdata = 0#32 ∧ OnlyAnswer s t)
    ∧ (a.status = .busy → i.port? ≠ some .aud)
    ∧ (a.status = .overrun → SameMemory s t ∧ ∃ c,
      (i = .fpopb c.code
        ∧ t = { s with
            answer := some a, chans := s.chans.set c { s.chan c with rdIdx := (s.chan c).wrSnap - most } })
      ∨ (i = .fpope c.code
        ∧ t = { s with
            answer := some a
            chans := s.chans.set c { s.chan c with
              rdIdx := (s.chan c).wrSnap - most, popActive := false, popValid := false } }))

/-- Every element has one writer (R30): a command of a port changes only what that port's agent writes, PREPARE and
RESET apart; in particular the AUD port writes no bank, and nothing of the settings, the shadow and the posted
configuration and the consumer's state (R225). -/
def Obligations.EveryElementHasOneWriter : Prop :=
  ∀ (i : Instr) (s t : State), exec i s = .next t →
    (i.port? = none → OnlyAnswer s t)
    ∧ (i.port? = some .ctl → i ≠ .reset → (∀ imm w, i ≠ .prepare imm w) →
      SameMemory s t ∧ t = { s with
        answer := t.answer, cst := t.cst, settings := t.settings, cfgSh := t.cfgSh, cfgPosted := t.cfgPosted
        cReq := t.cReq
        chans := ⟨{ s.chans.left with banks := t.chans.left.banks },
          { s.chans.right with banks := t.chans.right.banks }⟩ })
    ∧ (i.port? = some .aud → t = { s with
        answer := t.answer, cfgAct := t.cfgAct, cAck := t.cAck, inBlock := t.inBlock, pushEn := t.pushEn
        chans := ⟨audPart s.chans.left t.chans.left, audPart s.chans.right t.chans.right⟩ })
    ∧ (i.port? = some .ana → t = { s with
        answer := t.answer
        chans := ⟨anaPart s.chans.left t.chans.left, anaPart s.chans.right t.chans.right⟩ })
    ∧ (i.port? = some .ren → SameMemory s t ∧ t = { s with
        answer := t.answer
        chans := ⟨renPart s.chans.left t.chans.left, renPart s.chans.right t.chans.right⟩ })

/-- The autonomous steps: each synchroniser copies its one bit (R193, R243), and the snapshot responder, when enabled,
copies the write index and acknowledges (R244). -/
def Obligations.AutonomousSteps : Prop :=
  ∀ (s : State) (c : Channel),
    perform .synCreq s = .next { s with cReqA := s.cReq }
    ∧ perform .synCack s = .next { s with cAckC := s.cAck }
    ∧ perform (.synSreq c) s
        = .next { s with chans := s.chans.set c { s.chan c with sReqA := (s.chan c).sReq } }
    ∧ perform (.synSack c) s
        = .next { s with chans := s.chans.set c { s.chan c with sAckN := (s.chan c).sAck } }
    ∧ ((s.chan c).sReqA ≠ (s.chan c).sAck → perform (.snp c) s
        = .next { s with
            chans := s.chans.set c { s.chan c with wrSnap := (s.chan c).wrIdx, sAck := (s.chan c).sReqA } })

/-! ### Invariants -/

/-- Every step keeps the invariant of the machine's data: a legal configuration (R9, log 6), canonical memories, the
rolling buffers' length, legal settings (R40), finite coefficients (R151, R186), cut filters that enable a prefix
(R189), path buffer numbers that are a permutation (R75), counters within the block size (R13), and a legal sample rate
and block size (R48); and no step changes the configuration (R80). -/
def Obligations.StepKeepsInvariant : Prop :=
  ∀ s t : State, step s = .next t → t.config = s.config ∧ (Inv s → Inv t)

/-- Before the first PREPARE nothing has been started, and every step keeps it so; then FRD and FPOPE are refused with
ST_SEQ, FAVAIL answers 0 on an idle handshake, and RDBIN, PTAKE and PRD find nothing (R371). -/
def Obligations.NothingStartsBeforePrepare : Prop :=
  (∀ s t : State, Idle s → step s = .next t → Idle t)
    ∧ ∀ (s : State) (c : Channel) (imm : BitVec 16), Idle s → s.prepared = false →
      Refuses (.frd c.code) s .seq ∧ Refuses (.fpope c.code) s .seq ∧ Refuses (.ptake c.code) s .empty
        ∧ Refuses (.prd c.code imm) s .empty ∧ (imm.toNat ≤ s.config.nBin - 1 → Refuses (.rdbin c.code imm) s .empty)
        ∧ ((s.chan c).sReq = (s.chan c).sAckN →
          ∃ t, exec (.favail c.code) s = .next t ∧ t.answer = some ⟨.ok, 0#32⟩ ∧ OnlyAnswer s t)

/-- Every step keeps the commit handshake's invariant: when CTL sees no commit pending, the request has passed and been
acknowledged, and then the active configuration is the posted one (R104, R198). -/
def Obligations.StepKeepsCommitInvariant : Prop :=
  (∀ s t : State, CommitInv s → step s = .next t → CommitInv t)
    ∧ ∀ s : State, CommitInv s → s.commitPending = false → s.cfgAct = s.cfgPosted

/-- While a block is open, no event but a power-on changes the active configuration or any word of a coefficient block
it selects: no coefficient update is partially visible (R104). -/
def Obligations.ActiveCoefficientsAreStable : Prop :=
  ∀ (s t : State) (e : Event), CommitInv s → s.inBlock = true → e ≠ .powerOn → perform e s = .next t →
    t.cfgAct = s.cfgAct ∧ ∀ c u, t.activeBlock c u = s.activeBlock c u

/-- The life of one commit (R194): COMMIT, SYN_CREQ, BLKBEG, SYN_CACK; the datapath keeps its configuration until the
BLKBEG, uses the committed one from it on, and then no commit is pending. -/
def Obligations.CommitReachesTheDatapath : Prop :=
  ∀ s : State, CommitInv s → s.cReq = s.cAckC → s.prepared = true → s.inBlock = false →
    ∃ a t, exec .commit s = .next a ∧ a.cfgAct = s.cfgAct ∧ a.commitPending = true
      ∧ exec .blkbeg (synCreq a) = .next t ∧ t.cfgAct = s.cfgSh ∧ t.commitPending = true
      ∧ (synCack t).commitPending = false ∧ (synCack t).cfgAct = s.cfgSh

/-- Every step keeps the snapshot handshake's invariant; on an idle handshake the responder is not enabled, and no event
but FSNAP of the channel, a reset or a power-on changes the snapshot (R105). -/
def Obligations.SnapshotIsStableWhileIdle : Prop :=
  (∀ s t : State, (∀ c, (s.chan c).snapInv) → step s = .next t → ∀ c, (t.chan c).snapInv)
    ∧ ∀ (s t : State) (c : Channel) (e : Event), (s.chan c).snapInv → (s.chan c).snapPending = false →
      (s.chan c).sReqA = (s.chan c).sAck
        ∧ (e ≠ .powerOn → e.instr ≠ some (.fsnap c.code) → e.instr ≠ some .reset →
          (∀ imm w, e.instr ≠ some (.prepare imm w)) → perform e s = .next t →
            (t.chan c).wrSnap = (s.chan c).wrSnap ∧ (t.chan c).snapPending = false)

/-- A pending snapshot completes by SYN and SNP alone (R98, R255): after SYN_SREQ, SNP and SYN_SACK the handshake is
idle, and the snapshot is the write index of the responder's step, or was taken before. -/
def Obligations.SnapshotCompletes : Prop :=
  ∀ (s : State) (c : Channel), (s.chan c).snapPending = true →
    ∃ a b t, perform (.synSreq c) s = .next a ∧ perform (.snp c) a = .next b ∧ perform (.synSack c) b = .next t
      ∧ (t.chan c).snapPending = false
      ∧ ((s.chan c).sAck ≠ (s.chan c).sReq → (t.chan c).wrSnap = (s.chan c).wrIdx)
      ∧ ((s.chan c).sAck = (s.chan c).sReq → (t.chan c).wrSnap = (s.chan c).wrSnap)

/-- No step faults: from a state whose flags and counters guard written words only, a step answers a next state, and it
is such a state again; so no command can return or use an unwritten word (R29, R85, R106; the fault is the model's, log
10). -/
def Obligations.StepNeverFaults : Prop :=
  ∀ s : State, Inv s → Guarded s → ∃ t, step s = .next t ∧ Guarded t

/-- No torn read (R106): in a run from an open pop with no word read yet to the FPOPE that ends it, whatever is
presented in between, an FPOPE that is refused and leaves the pop open too (R253), an FPOPE that answers ST_OK leaves
in the pop buffer exactly the words that the slot of the read index held when the run began, and moves the read index
on by one. The run's bound stands for the premise of R400 (log 19). -/
def Obligations.ValidatedPopIsNotTorn : Prop :=
  ∀ (c : Channel) (s t u : State) (es rest : List Event) (cmd wdata a : Word),
    let k := s.chan c
    s.inputs = es ++ .command .ana cmd wdata :: rest → decode .ana cmd wdata = some (.fpope c.code) →
    (∀ n v, n ≤ es.length → steps n s = .next v → (v.chan c).popActive = true) → es.length < 2 ^ 30 →
    LegalConfig s.config → s.rBlk.toNat ≤ s.config.blkMax → k.snapInv → k.popCnt = 0#16 →
    1 ≤ (k.wrSnap - k.rdIdx).toNat → (k.wrSnap - k.rdIdx).toNat ≤ s.config.fifoCap - 1 →
    (k.wrIdx - k.wrSnap).toNat < 2 ^ 30 →
    steps es.length s = .next t → step t = .next u → u.answer = some ⟨.ok, a⟩ →
      (u.chan c).rdIdx = k.rdIdx + 1#32 ∧ (u.chan c).popValid = true
        ∧ ∀ i, i < s.rBlk.toNat → u.peek .popBuf c i = s.peek .slot c (slotIndex s.config k.rdIdx i)

/-! ### Arithmetic -/

/-- The basic operations on finite words round the exact result once, to nearest with ties to even, with gradual
underflow and with overflow to infinity; an exact zero sum is +0.0 unless both operands are negative zeros, an exact
zero difference is +0.0 unless it is -0.0 minus +0.0, a product and a quotient have the sign of their operands' signs,
also where they are zeros, and the root of a zero is that zero (R14, R15). -/
def Obligations.BasicOperationsRoundToNearest : Prop :=
  ∀ ν a b : Word, F32.isFinite a = true → F32.isFinite b = true →
    IsRounded (value a + value b) (F32.fadd ν a b) ∧ IsRounded (value a - value b) (F32.fsub ν a b)
      ∧ IsRounded (value a * value b) (F32.fmul ν a b)
      ∧ (F32.isZero b = false → IsRounded (value a / value b) (F32.fdiv ν a b)
        ∧ F32.sign (F32.fdiv ν a b) = (F32.sign a != F32.sign b))
      ∧ (0 ≤ value a → IsRounded (Real.sqrt (value a)) (F32.fsqrt ν a))
      ∧ (F32.isZero a = true → F32.fsqrt ν a = a)
      ∧ (value a + value b = 0 → F32.fadd ν a b = if F32.sign a && F32.sign b then 0x80000000#32 else 0x00000000#32)
      ∧ (value a - value b = 0 → F32.fsub ν a b = if F32.sign a && !F32.sign b then 0x80000000#32 else 0x00000000#32)
      ∧ F32.sign (F32.fmul ν a b) = (F32.sign a != F32.sign b)

/-- The special values of R15: NaN for a NaN operand, for Inf - Inf, 0 × Inf in either order, 0 / 0, Inf / Inf and the
root of a negative number, whatever the draw; the infinity itself for a sum or difference of an infinity and a finite
word, in either order, and of infinities that do not cancel; infinity of the sign of the product for Inf × x with x
other than 0, of the sign of the quotient for Inf / x with x finite and for x / 0 with x other than 0; a zero of the
sign of the quotient for x / Inf with x finite; +Inf for the root of +Inf. The comparisons order finite words by their
values, with both zeros equal, put every other number between -Inf and +Inf, and are false for a NaN. -/
def Obligations.SpecialValuesAndComparisons : Prop :=
  ∀ ν a b : Word,
    let opposite := F32.sign a != F32.sign b
    (F32.isNaN a = true ∨ F32.isNaN b = true →
      F32.isNaN (F32.fadd ν a b) = true ∧ F32.isNaN (F32.fsub ν a b) = true ∧ F32.isNaN (F32.fmul ν a b) = true
        ∧ F32.isNaN (F32.fdiv ν a b) = true
        ∧ F32.flt a b = false ∧ F32.fle a b = false ∧ F32.fgt a b = false ∧ F32.feq a b = false)
    ∧ (F32.isNaN a = true → F32.isNaN (F32.fsqrt ν a) = true)
    ∧ (F32.isZero a = false → F32.sign a = true → F32.isNaN (F32.fsqrt ν a) = true)
    ∧ (F32.isInf a = true → F32.sign a = false → F32.fsqrt ν a = a)
    ∧ (F32.isInf a = true → F32.isInf b = true →
      (if opposite then F32.isNaN (F32.fadd ν a b) = true ∧ F32.fsub ν a b = a
        else F32.fadd ν a b = a ∧ F32.isNaN (F32.fsub ν a b) = true)
      ∧ F32.isNaN (F32.fdiv ν a b) = true)
    ∧ (F32.isInf a = true → F32.isFinite b = true →
      F32.fadd ν a b = a ∧ F32.fadd ν b a = a ∧ F32.fsub ν a b = a
        ∧ F32.isInf (F32.fsub ν b a) = true ∧ F32.sign (F32.fsub ν b a) = !F32.sign a
        ∧ F32.isInf (F32.fdiv ν a b) = true ∧ F32.sign (F32.fdiv ν a b) = opposite
        ∧ F32.isZero (F32.fdiv ν b a) = true ∧ F32.sign (F32.fdiv ν b a) = opposite)
    ∧ (F32.isInf a = true → F32.isZero b = true →
      F32.isNaN (F32.fmul ν a b) = true ∧ F32.isNaN (F32.fmul ν b a) = true)
    ∧ (F32.isInf a = true → F32.isNaN b = false → F32.isZero b = false →
      F32.isInf (F32.fmul ν a b) = true ∧ F32.sign (F32.fmul ν a b) = opposite
        ∧ F32.isInf (F32.fmul ν b a) = true ∧ F32.sign (F32.fmul ν b a) = opposite)
    ∧ (F32.isZero a = true → F32.isZero b = true → F32.isNaN (F32.fdiv ν a b) = true)
    ∧ (F32.isNaN a = false → F32.isZero a = false → F32.isZero b = true →
      F32.isInf (F32.fdiv ν a b) = true ∧ F32.sign (F32.fdiv ν a b) = opposite)
    ∧ (F32.isFinite a = true → F32.isFinite b = true →
      (F32.flt a b = true ↔ value a < value b) ∧ (F32.fle a b = true ↔ value a ≤ value b)
        ∧ (F32.fgt a b = true ↔ value b < value a) ∧ (F32.feq a b = true ↔ value a = value b))
    ∧ (F32.isInf a = true → F32.isNaN b = false →
      (F32.flt a b = true ↔ F32.sign a = true ∧ b ≠ a) ∧ (F32.flt b a = true ↔ F32.sign a = false ∧ b ≠ a)
        ∧ (F32.fle a b = true ↔ F32.sign a = true ∨ b = a) ∧ (F32.fle b a = true ↔ F32.sign a = false ∨ b = a)
        ∧ (F32.fgt a b = true ↔ F32.sign a = false ∧ b ≠ a) ∧ (F32.fgt b a = true ↔ F32.sign a = true ∧ b ≠ a)
        ∧ (F32.feq a b = true ↔ b = a) ∧ (F32.feq b a = true ↔ b = a))
end

