-- ==== Sys2Proof/Laws/State.lean ====
section
/-! SUPPORT. What each named update of the state leaves in each field: one lemma per field per update. -/

namespace Sys2Proof.Machine

/-! ### `Pair` -/

@[simp] theorem Pair.get_left {α : Type} (p : Pair α) : p.get .left = p.left := rfl
@[simp] theorem Pair.get_right {α : Type} (p : Pair α) : p.get .right = p.right := rfl

/-- Reading the channel just replaced. -/
@[simp] theorem Pair.get_set_self {α : Type} (p : Pair α) (c : Channel) (a : α) : (p.set c a).get c = a := by
  cases c <;> rfl

/-- Reading the other channel. -/
theorem Pair.get_set_ne {α : Type} (p : Pair α) {c d : Channel} (a : α) (h : d ≠ c) : (p.set c a).get d = p.get d := by
  cases c <;> cases d <;> first | rfl | exact absurd rfl h

/-- Reading either channel after a replacement. -/
theorem Pair.get_set {α : Type} (p : Pair α) (c d : Channel) (a : α) :
    (p.set c a).get d = if d = c then a else p.get d := by
  cases c <;> cases d <;> rfl

@[simp] theorem Pair.get_map {α β : Type} (f : α → β) (p : Pair α) (c : Channel) : (p.map f).get c = f (p.get c) := by
  cases c <;> rfl


/-! ### `State.answered` -/

@[simp] theorem State.answered_inputs (s : State) (st : Status) (w : Word) : (s.answered st w).inputs = s.inputs := rfl
@[simp] theorem State.answered_answer (s : State) (st : Status) (w : Word) :
    (s.answered st w).answer = some ⟨st, w⟩ := rfl
@[simp] theorem State.answered_draws (s : State) (st : Status) (w : Word) : (s.answered st w).draws = s.draws := rfl
@[simp] theorem State.answered_config (s : State) (st : Status) (w : Word) : (s.answered st w).config = s.config := rfl
@[simp] theorem State.answered_cst (s : State) (st : Status) (w : Word) : (s.answered st w).cst = s.cst := rfl
@[simp] theorem State.answered_settings (s : State) (st : Status) (w : Word) :
    (s.answered st w).settings = s.settings := rfl
@[simp] theorem State.answered_rFs (s : State) (st : Status) (w : Word) : (s.answered st w).rFs = s.rFs := rfl
@[simp] theorem State.answered_rBlk (s : State) (st : Status) (w : Word) : (s.answered st w).rBlk = s.rBlk := rfl
@[simp] theorem State.answered_prepared (s : State) (st : Status) (w : Word) :
    (s.answered st w).prepared = s.prepared := rfl
@[simp] theorem State.answered_cfgSh (s : State) (st : Status) (w : Word) : (s.answered st w).cfgSh = s.cfgSh := rfl
@[simp] theorem State.answered_cfgPosted (s : State) (st : Status) (w : Word) :
    (s.answered st w).cfgPosted = s.cfgPosted := rfl
@[simp] theorem State.answered_cfgAct (s : State) (st : Status) (w : Word) : (s.answered st w).cfgAct = s.cfgAct := rfl
@[simp] theorem State.answered_cReq (s : State) (st : Status) (w : Word) : (s.answered st w).cReq = s.cReq := rfl
@[simp] theorem State.answered_cReqA (s : State) (st : Status) (w : Word) : (s.answered st w).cReqA = s.cReqA := rfl
@[simp] theorem State.answered_cAck (s : State) (st : Status) (w : Word) : (s.answered st w).cAck = s.cAck := rfl
@[simp] theorem State.answered_cAckC (s : State) (st : Status) (w : Word) : (s.answered st w).cAckC = s.cAckC := rfl
@[simp] theorem State.answered_inBlock (s : State) (st : Status) (w : Word) :
    (s.answered st w).inBlock = s.inBlock := rfl
@[simp] theorem State.answered_pushEn (s : State) (st : Status) (w : Word) : (s.answered st w).pushEn = s.pushEn := rfl
@[simp] theorem State.answered_chans (s : State) (st : Status) (w : Word) : (s.answered st w).chans = s.chans := rfl

/-! ### `State.setChan` -/

@[simp] theorem State.setChan_inputs (s : State) (c : Channel) (k : Chan) : (s.setChan c k).inputs = s.inputs := rfl
@[simp] theorem State.setChan_answer (s : State) (c : Channel) (k : Chan) : (s.setChan c k).answer = s.answer := rfl
@[simp] theorem State.setChan_draws (s : State) (c : Channel) (k : Chan) : (s.setChan c k).draws = s.draws := rfl
@[simp] theorem State.setChan_config (s : State) (c : Channel) (k : Chan) : (s.setChan c k).config = s.config := rfl
@[simp] theorem State.setChan_cst (s : State) (c : Channel) (k : Chan) : (s.setChan c k).cst = s.cst := rfl
@[simp] theorem State.setChan_settings (s : State) (c : Channel) (k : Chan) :
    (s.setChan c k).settings = s.settings := rfl
@[simp] theorem State.setChan_rFs (s : State) (c : Channel) (k : Chan) : (s.setChan c k).rFs = s.rFs := rfl
@[simp] theorem State.setChan_rBlk (s : State) (c : Channel) (k : Chan) : (s.setChan c k).rBlk = s.rBlk := rfl
@[simp] theorem State.setChan_prepared (s : State) (c : Channel) (k : Chan) :
    (s.setChan c k).prepared = s.prepared := rfl
@[simp] theorem State.setChan_cfgSh (s : State) (c : Channel) (k : Chan) : (s.setChan c k).cfgSh = s.cfgSh := rfl
@[simp] theorem State.setChan_cfgPosted (s : State) (c : Channel) (k : Chan) :
    (s.setChan c k).cfgPosted = s.cfgPosted := rfl
@[simp] theorem State.setChan_cfgAct (s : State) (c : Channel) (k : Chan) : (s.setChan c k).cfgAct = s.cfgAct := rfl
@[simp] theorem State.setChan_cReq (s : State) (c : Channel) (k : Chan) : (s.setChan c k).cReq = s.cReq := rfl
@[simp] theorem State.setChan_cReqA (s : State) (c : Channel) (k : Chan) : (s.setChan c k).cReqA = s.cReqA := rfl
@[simp] theorem State.setChan_cAck (s : State) (c : Channel) (k : Chan) : (s.setChan c k).cAck = s.cAck := rfl
@[simp] theorem State.setChan_cAckC (s : State) (c : Channel) (k : Chan) : (s.setChan c k).cAckC = s.cAckC := rfl
@[simp] theorem State.setChan_inBlock (s : State) (c : Channel) (k : Chan) : (s.setChan c k).inBlock = s.inBlock := rfl
@[simp] theorem State.setChan_pushEn (s : State) (c : Channel) (k : Chan) : (s.setChan c k).pushEn = s.pushEn := rfl
@[simp] theorem State.setChan_chans (s : State) (c : Channel) (k : Chan) :
    (s.setChan c k).chans = s.chans.set c k := rfl

/-! ### `State.accept` -/

@[simp] theorem State.accept_inputs (s : State) (rest : List Event) : (s.accept rest).inputs = rest := rfl
@[simp] theorem State.accept_answer (s : State) (rest : List Event) : (s.accept rest).answer = s.answer := rfl
@[simp] theorem State.accept_draws (s : State) (rest : List Event) : (s.accept rest).draws = s.draws + 1 := rfl
@[simp] theorem State.accept_config (s : State) (rest : List Event) : (s.accept rest).config = s.config := rfl
@[simp] theorem State.accept_cst (s : State) (rest : List Event) : (s.accept rest).cst = s.cst := rfl
@[simp] theorem State.accept_settings (s : State) (rest : List Event) : (s.accept rest).settings = s.settings := rfl
@[simp] theorem State.accept_rFs (s : State) (rest : List Event) : (s.accept rest).rFs = s.rFs := rfl
@[simp] theorem State.accept_rBlk (s : State) (rest : List Event) : (s.accept rest).rBlk = s.rBlk := rfl
@[simp] theorem State.accept_prepared (s : State) (rest : List Event) : (s.accept rest).prepared = s.prepared := rfl
@[simp] theorem State.accept_cfgSh (s : State) (rest : List Event) : (s.accept rest).cfgSh = s.cfgSh := rfl
@[simp] theorem State.accept_cfgPosted (s : State) (rest : List Event) : (s.accept rest).cfgPosted = s.cfgPosted := rfl
@[simp] theorem State.accept_cfgAct (s : State) (rest : List Event) : (s.accept rest).cfgAct = s.cfgAct := rfl
@[simp] theorem State.accept_cReq (s : State) (rest : List Event) : (s.accept rest).cReq = s.cReq := rfl
@[simp] theorem State.accept_cReqA (s : State) (rest : List Event) : (s.accept rest).cReqA = s.cReqA := rfl
@[simp] theorem State.accept_cAck (s : State) (rest : List Event) : (s.accept rest).cAck = s.cAck := rfl
@[simp] theorem State.accept_cAckC (s : State) (rest : List Event) : (s.accept rest).cAckC = s.cAckC := rfl
@[simp] theorem State.accept_inBlock (s : State) (rest : List Event) : (s.accept rest).inBlock = s.inBlock := rfl
@[simp] theorem State.accept_pushEn (s : State) (rest : List Event) : (s.accept rest).pushEn = s.pushEn := rfl
@[simp] theorem State.accept_chans (s : State) (rest : List Event) : (s.accept rest).chans = s.chans := rfl

/-! ### `State.resetRuntime` -/

@[simp] theorem State.resetRuntime_inputs (s : State) : (s.resetRuntime).inputs = s.inputs := rfl
@[simp] theorem State.resetRuntime_answer (s : State) : (s.resetRuntime).answer = s.answer := rfl
@[simp] theorem State.resetRuntime_draws (s : State) : (s.resetRuntime).draws = s.draws := rfl
@[simp] theorem State.resetRuntime_config (s : State) : (s.resetRuntime).config = s.config := rfl
@[simp] theorem State.resetRuntime_cst (s : State) : (s.resetRuntime).cst = s.cst := rfl
@[simp] theorem State.resetRuntime_settings (s : State) : (s.resetRuntime).settings = s.settings := rfl
@[simp] theorem State.resetRuntime_rFs (s : State) : (s.resetRuntime).rFs = s.rFs := rfl
@[simp] theorem State.resetRuntime_rBlk (s : State) : (s.resetRuntime).rBlk = s.rBlk := rfl
@[simp] theorem State.resetRuntime_prepared (s : State) : (s.resetRuntime).prepared = s.prepared := rfl
@[simp] theorem State.resetRuntime_cfgSh (s : State) : (s.resetRuntime).cfgSh = s.cfgSh := rfl
@[simp] theorem State.resetRuntime_cfgPosted (s : State) : (s.resetRuntime).cfgPosted = s.cfgPosted := rfl
@[simp] theorem State.resetRuntime_cfgAct (s : State) : (s.resetRuntime).cfgAct = s.cfgPosted := rfl
@[simp] theorem State.resetRuntime_cReq (s : State) : (s.resetRuntime).cReq = false := rfl
@[simp] theorem State.resetRuntime_cReqA (s : State) : (s.resetRuntime).cReqA = false := rfl
@[simp] theorem State.resetRuntime_cAck (s : State) : (s.resetRuntime).cAck = false := rfl
@[simp] theorem State.resetRuntime_cAckC (s : State) : (s.resetRuntime).cAckC = false := rfl
@[simp] theorem State.resetRuntime_inBlock (s : State) : (s.resetRuntime).inBlock = false := rfl
@[simp] theorem State.resetRuntime_pushEn (s : State) : (s.resetRuntime).pushEn = false := rfl
@[simp] theorem State.resetRuntime_chans (s : State) :
    (s.resetRuntime).chans = s.chans.map (Chan.resetRuntime s.config.fftN) := rfl

/-! ### `synCreq` -/

@[simp] theorem synCreq_inputs (s : State) : (synCreq s).inputs = s.inputs := rfl
@[simp] theorem synCreq_answer (s : State) : (synCreq s).answer = s.answer := rfl
@[simp] theorem synCreq_draws (s : State) : (synCreq s).draws = s.draws := rfl
@[simp] theorem synCreq_config (s : State) : (synCreq s).config = s.config := rfl
@[simp] theorem synCreq_cst (s : State) : (synCreq s).cst = s.cst := rfl
@[simp] theorem synCreq_settings (s : State) : (synCreq s).settings = s.settings := rfl
@[simp] theorem synCreq_rFs (s : State) : (synCreq s).rFs = s.rFs := rfl
@[simp] theorem synCreq_rBlk (s : State) : (synCreq s).rBlk = s.rBlk := rfl
@[simp] theorem synCreq_prepared (s : State) : (synCreq s).prepared = s.prepared := rfl
@[simp] theorem synCreq_cfgSh (s : State) : (synCreq s).cfgSh = s.cfgSh := rfl
@[simp] theorem synCreq_cfgPosted (s : State) : (synCreq s).cfgPosted = s.cfgPosted := rfl
@[simp] theorem synCreq_cfgAct (s : State) : (synCreq s).cfgAct = s.cfgAct := rfl
@[simp] theorem synCreq_cReq (s : State) : (synCreq s).cReq = s.cReq := rfl
@[simp] theorem synCreq_cReqA (s : State) : (synCreq s).cReqA = s.cReq := rfl
@[simp] theorem synCreq_cAck (s : State) : (synCreq s).cAck = s.cAck := rfl
@[simp] theorem synCreq_cAckC (s : State) : (synCreq s).cAckC = s.cAckC := rfl
@[simp] theorem synCreq_inBlock (s : State) : (synCreq s).inBlock = s.inBlock := rfl
@[simp] theorem synCreq_pushEn (s : State) : (synCreq s).pushEn = s.pushEn := rfl
@[simp] theorem synCreq_chans (s : State) : (synCreq s).chans = s.chans := rfl

/-! ### `synCack` -/

@[simp] theorem synCack_inputs (s : State) : (synCack s).inputs = s.inputs := rfl
@[simp] theorem synCack_answer (s : State) : (synCack s).answer = s.answer := rfl
@[simp] theorem synCack_draws (s : State) : (synCack s).draws = s.draws := rfl
@[simp] theorem synCack_config (s : State) : (synCack s).config = s.config := rfl
@[simp] theorem synCack_cst (s : State) : (synCack s).cst = s.cst := rfl
@[simp] theorem synCack_settings (s : State) : (synCack s).settings = s.settings := rfl
@[simp] theorem synCack_rFs (s : State) : (synCack s).rFs = s.rFs := rfl
@[simp] theorem synCack_rBlk (s : State) : (synCack s).rBlk = s.rBlk := rfl
@[simp] theorem synCack_prepared (s : State) : (synCack s).prepared = s.prepared := rfl
@[simp] theorem synCack_cfgSh (s : State) : (synCack s).cfgSh = s.cfgSh := rfl
@[simp] theorem synCack_cfgPosted (s : State) : (synCack s).cfgPosted = s.cfgPosted := rfl
@[simp] theorem synCack_cfgAct (s : State) : (synCack s).cfgAct = s.cfgAct := rfl
@[simp] theorem synCack_cReq (s : State) : (synCack s).cReq = s.cReq := rfl
@[simp] theorem synCack_cReqA (s : State) : (synCack s).cReqA = s.cReqA := rfl
@[simp] theorem synCack_cAck (s : State) : (synCack s).cAck = s.cAck := rfl
@[simp] theorem synCack_cAckC (s : State) : (synCack s).cAckC = s.cAck := rfl
@[simp] theorem synCack_inBlock (s : State) : (synCack s).inBlock = s.inBlock := rfl
@[simp] theorem synCack_pushEn (s : State) : (synCack s).pushEn = s.pushEn := rfl
@[simp] theorem synCack_chans (s : State) : (synCack s).chans = s.chans := rfl

/-! ### `Chan.setBank` -/

@[simp] theorem Chan.setBank_banks (k : Chan) (t : Fin 9) (b : Bool) (v : Coef) :
    (k.setBank t b v).banks = k.banks.set t ((k.banks.get t).set b v) := rfl
@[simp] theorem Chan.setBank_z1 (k : Chan) (t : Fin 9) (b : Bool) (v : Coef) : (k.setBank t b v).z1 = k.z1 := rfl
@[simp] theorem Chan.setBank_z2 (k : Chan) (t : Fin 9) (b : Bool) (v : Coef) : (k.setBank t b v).z2 = k.z2 := rfl
@[simp] theorem Chan.setBank_smpCnt (k : Chan) (t : Fin 9) (b : Bool) (v : Coef) :
    (k.setBank t b v).smpCnt = k.smpCnt := rfl
@[simp] theorem Chan.setBank_slot (k : Chan) (t : Fin 9) (b : Bool) (v : Coef) : (k.setBank t b v).slot = k.slot := rfl
@[simp] theorem Chan.setBank_wrIdx (k : Chan) (t : Fin 9) (b : Bool) (v : Coef) :
    (k.setBank t b v).wrIdx = k.wrIdx := rfl
@[simp] theorem Chan.setBank_wrSnap (k : Chan) (t : Fin 9) (b : Bool) (v : Coef) :
    (k.setBank t b v).wrSnap = k.wrSnap := rfl
@[simp] theorem Chan.setBank_rdIdx (k : Chan) (t : Fin 9) (b : Bool) (v : Coef) :
    (k.setBank t b v).rdIdx = k.rdIdx := rfl
@[simp] theorem Chan.setBank_sReq (k : Chan) (t : Fin 9) (b : Bool) (v : Coef) : (k.setBank t b v).sReq = k.sReq := rfl
@[simp] theorem Chan.setBank_sReqA (k : Chan) (t : Fin 9) (b : Bool) (v : Coef) :
    (k.setBank t b v).sReqA = k.sReqA := rfl
@[simp] theorem Chan.setBank_sAck (k : Chan) (t : Fin 9) (b : Bool) (v : Coef) : (k.setBank t b v).sAck = k.sAck := rfl
@[simp] theorem Chan.setBank_sAckN (k : Chan) (t : Fin 9) (b : Bool) (v : Coef) :
    (k.setBank t b v).sAckN = k.sAckN := rfl
@[simp] theorem Chan.setBank_popActive (k : Chan) (t : Fin 9) (b : Bool) (v : Coef) :
    (k.setBank t b v).popActive = k.popActive := rfl
@[simp] theorem Chan.setBank_popCnt (k : Chan) (t : Fin 9) (b : Bool) (v : Coef) :
    (k.setBank t b v).popCnt = k.popCnt := rfl
@[simp] theorem Chan.setBank_snapPost (k : Chan) (t : Fin 9) (b : Bool) (v : Coef) :
    (k.setBank t b v).snapPost = k.snapPost := rfl
@[simp] theorem Chan.setBank_popValid (k : Chan) (t : Fin 9) (b : Bool) (v : Coef) :
    (k.setBank t b v).popValid = k.popValid := rfl
@[simp] theorem Chan.setBank_popBuf (k : Chan) (t : Fin 9) (b : Bool) (v : Coef) :
    (k.setBank t b v).popBuf = k.popBuf := rfl
@[simp] theorem Chan.setBank_roll (k : Chan) (t : Fin 9) (b : Bool) (v : Coef) : (k.setBank t b v).roll = k.roll := rfl
@[simp] theorem Chan.setBank_newAudio (k : Chan) (t : Fin 9) (b : Bool) (v : Coef) :
    (k.setBank t b v).newAudio = k.newAudio := rfl
@[simp] theorem Chan.setBank_dbValid (k : Chan) (t : Fin 9) (b : Bool) (v : Coef) :
    (k.setBank t b v).dbValid = k.dbValid := rfl
@[simp] theorem Chan.setBank_db (k : Chan) (t : Fin 9) (b : Bool) (v : Coef) : (k.setBank t b v).db = k.db := rfl
@[simp] theorem Chan.setBank_pathReady (k : Chan) (t : Fin 9) (b : Bool) (v : Coef) :
    (k.setBank t b v).pathReady = k.pathReady := rfl
@[simp] theorem Chan.setBank_pNew (k : Chan) (t : Fin 9) (b : Bool) (v : Coef) : (k.setBank t b v).pNew = k.pNew := rfl
@[simp] theorem Chan.setBank_heldValid (k : Chan) (t : Fin 9) (b : Bool) (v : Coef) :
    (k.setBank t b v).heldValid = k.heldValid := rfl
@[simp] theorem Chan.setBank_pbuf (k : Chan) (t : Fin 9) (b : Bool) (v : Coef) : (k.setBank t b v).pbuf = k.pbuf := rfl
@[simp] theorem Chan.setBank_plen (k : Chan) (t : Fin 9) (b : Bool) (v : Coef) : (k.setBank t b v).plen = k.plen := rfl
@[simp] theorem Chan.setBank_pBack (k : Chan) (t : Fin 9) (b : Bool) (v : Coef) :
    (k.setBank t b v).pBack = k.pBack := rfl
@[simp] theorem Chan.setBank_pFront (k : Chan) (t : Fin 9) (b : Bool) (v : Coef) :
    (k.setBank t b v).pFront = k.pFront := rfl
@[simp] theorem Chan.setBank_pHeld (k : Chan) (t : Fin 9) (b : Bool) (v : Coef) :
    (k.setBank t b v).pHeld = k.pHeld := rfl

/-! ### `Chan.resetRuntime` -/

@[simp] theorem Chan.resetRuntime_banks (n : Nat) (k : Chan) : (k.resetRuntime n).banks = k.banks := rfl
@[simp] theorem Chan.resetRuntime_z1 (n : Nat) (k : Chan) : (k.resetRuntime n).z1 = .replicate 9 0#32 := rfl
@[simp] theorem Chan.resetRuntime_z2 (n : Nat) (k : Chan) : (k.resetRuntime n).z2 = .replicate 9 0#32 := rfl
@[simp] theorem Chan.resetRuntime_smpCnt (n : Nat) (k : Chan) : (k.resetRuntime n).smpCnt = 0#16 := rfl
@[simp] theorem Chan.resetRuntime_slot (n : Nat) (k : Chan) : (k.resetRuntime n).slot = k.slot := rfl
@[simp] theorem Chan.resetRuntime_wrIdx (n : Nat) (k : Chan) : (k.resetRuntime n).wrIdx = 0#32 := rfl
@[simp] theorem Chan.resetRuntime_wrSnap (n : Nat) (k : Chan) : (k.resetRuntime n).wrSnap = 0#32 := rfl
@[simp] theorem Chan.resetRuntime_rdIdx (n : Nat) (k : Chan) : (k.resetRuntime n).rdIdx = 0#32 := rfl
@[simp] theorem Chan.resetRuntime_sReq (n : Nat) (k : Chan) : (k.resetRuntime n).sReq = false := rfl
@[simp] theorem Chan.resetRuntime_sReqA (n : Nat) (k : Chan) : (k.resetRuntime n).sReqA = false := rfl
@[simp] theorem Chan.resetRuntime_sAck (n : Nat) (k : Chan) : (k.resetRuntime n).sAck = false := rfl
@[simp] theorem Chan.resetRuntime_sAckN (n : Nat) (k : Chan) : (k.resetRuntime n).sAckN = false := rfl
@[simp] theorem Chan.resetRuntime_popActive (n : Nat) (k : Chan) : (k.resetRuntime n).popActive = false := rfl
@[simp] theorem Chan.resetRuntime_popCnt (n : Nat) (k : Chan) : (k.resetRuntime n).popCnt = 0#16 := rfl
@[simp] theorem Chan.resetRuntime_snapPost (n : Nat) (k : Chan) : (k.resetRuntime n).snapPost = false := rfl
@[simp] theorem Chan.resetRuntime_popValid (n : Nat) (k : Chan) : (k.resetRuntime n).popValid = false := rfl
@[simp] theorem Chan.resetRuntime_popBuf (n : Nat) (k : Chan) : (k.resetRuntime n).popBuf = k.popBuf := rfl
@[simp] theorem Chan.resetRuntime_roll (n : Nat) (k : Chan) : (k.resetRuntime n).roll = .replicate n 0#32 := rfl
@[simp] theorem Chan.resetRuntime_newAudio (n : Nat) (k : Chan) : (k.resetRuntime n).newAudio = false := rfl
@[simp] theorem Chan.resetRuntime_dbValid (n : Nat) (k : Chan) : (k.resetRuntime n).dbValid = false := rfl
@[simp] theorem Chan.resetRuntime_db (n : Nat) (k : Chan) : (k.resetRuntime n).db = k.db := rfl
@[simp] theorem Chan.resetRuntime_pathReady (n : Nat) (k : Chan) : (k.resetRuntime n).pathReady = false := rfl
@[simp] theorem Chan.resetRuntime_pNew (n : Nat) (k : Chan) : (k.resetRuntime n).pNew = false := rfl
@[simp] theorem Chan.resetRuntime_heldValid (n : Nat) (k : Chan) : (k.resetRuntime n).heldValid = false := rfl
@[simp] theorem Chan.resetRuntime_pbuf (n : Nat) (k : Chan) : (k.resetRuntime n).pbuf = k.pbuf := rfl
@[simp] theorem Chan.resetRuntime_plen (n : Nat) (k : Chan) : (k.resetRuntime n).plen = k.plen := rfl
@[simp] theorem Chan.resetRuntime_pBack (n : Nat) (k : Chan) : (k.resetRuntime n).pBack = 0 := rfl
@[simp] theorem Chan.resetRuntime_pFront (n : Nat) (k : Chan) : (k.resetRuntime n).pFront = 1 := rfl
@[simp] theorem Chan.resetRuntime_pHeld (n : Nat) (k : Chan) : (k.resetRuntime n).pHeld = 2 := rfl

/-! ### Channels of an updated state -/

@[simp] theorem State.chan_answered (s : State) (st : Status) (w : Word) (c : Channel) :
    (s.answered st w).chan c = s.chan c := rfl
@[simp] theorem State.chan_accept (s : State) (rest : List Event) (c : Channel) :
    (s.accept rest).chan c = s.chan c := rfl
@[simp] theorem State.chan_synCreq (s : State) (c : Channel) : (synCreq s).chan c = s.chan c := rfl
@[simp] theorem State.chan_synCack (s : State) (c : Channel) : (synCack s).chan c = s.chan c := rfl

/-- The channel just replaced. -/
@[simp] theorem State.chan_setChan_self (s : State) (c : Channel) (k : Chan) : (s.setChan c k).chan c = k :=
  Pair.get_set_self _ _ _

/-- The other channel. -/
theorem State.chan_setChan_ne (s : State) {c d : Channel} (k : Chan) (h : d ≠ c) : (s.setChan c k).chan d = s.chan d :=
  Pair.get_set_ne _ _ h

/-- Either channel after a replacement. -/
theorem State.chan_setChan (s : State) (c d : Channel) (k : Chan) :
    (s.setChan c k).chan d = if d = c then k else s.chan d := Pair.get_set _ _ _ _

@[simp] theorem State.chan_resetRuntime (s : State) (c : Channel) :
    s.resetRuntime.chan c = (s.chan c).resetRuntime s.config.fftN :=
  Pair.get_map _ _ _

@[simp] theorem State.memory_answered (s : State) (st : Status) (w : Word) (c : Channel) (m : MemoryName) :
    (s.answered st w).memory c m = s.memory c m := by cases m <;> rfl
@[simp] theorem State.memory_accept (s : State) (rest : List Event) (c : Channel) (m : MemoryName) :
    (s.accept rest).memory c m = s.memory c m := by cases m <;> rfl
@[simp] theorem State.memory_resetRuntime (s : State) (c : Channel) (m : MemoryName) :
    s.resetRuntime.memory c m = s.memory c m := by cases c <;> cases m <;> rfl
@[simp] theorem State.peek_answered (s : State) (st : Status) (w : Word) (m : MemoryName) (c : Channel) (i : Nat) :
    (s.answered st w).peek m c i = s.peek m c i := by cases m <;> rfl
@[simp] theorem State.peek_accept (s : State) (rest : List Event) (m : MemoryName) (c : Channel) (i : Nat) :
    (s.accept rest).peek m c i = s.peek m c i := by cases m <;> rfl

/-! ### Configuration records and coefficient blocks -/

@[simp] theorem Cfg.setChan_anEn (g : Cfg) (c : Channel) (k : ChanCfg) : (g.setChan c k).anEn = g.anEn := rfl

/-- The channel just replaced. -/
@[simp] theorem Cfg.chan_setChan_self (g : Cfg) (c : Channel) (k : ChanCfg) : (g.setChan c k).chan c = k :=
  Pair.get_set_self _ _ _

/-- Either channel after a replacement. -/
theorem Cfg.chan_setChan (g : Cfg) (c d : Channel) (k : ChanCfg) :
    (g.setChan c k).chan d = if d = c then k else g.chan d := Pair.get_set _ _ _ _

@[simp] theorem ChanCfg.setCutByp_sel (k : ChanCfg) (cut : Cut) (v : Vector Bool 4) :
    (k.setCutByp cut v).sel = k.sel := by cases cut <;> rfl
@[simp] theorem ChanCfg.setCutByp_posByp (k : ChanCfg) (cut : Cut) (v : Vector Bool 4) :
    (k.setCutByp cut v).posByp = k.posByp := by cases cut <;> rfl

/-- The bypass bits of either cut filter after those of one are replaced. -/
theorem ChanCfg.cutByp_setCutByp (k : ChanCfg) (cut d : Cut) (v : Vector Bool 4) :
    (k.setCutByp cut v).cutByp d = if d = cut then v else k.cutByp d := by cases cut <;> cases d <;> rfl

/-- The word just replaced. -/
@[simp] theorem Coef.get_set_self (k : Coef) (i : Fin 5) (w : Word) : (k.set i w).get i = w := by
  fin_cases i <;> rfl

/-- Another word. -/
theorem Coef.get_set_ne (k : Coef) {i j : Fin 5} (w : Word) (h : j ≠ i) : (k.set i w).get j = k.get j := by
  fin_cases i <;> fin_cases j <;> first | rfl | exact absurd rfl h

/-- The bank just replaced. -/
@[simp] theorem Banks.get_set_self (k : Banks) (b : Bool) (v : Coef) : (k.set b v).get b = v := by cases b <;> rfl

/-- The other bank. -/
@[simp] theorem Banks.get_set_not (k : Banks) (b : Bool) (v : Coef) : (k.set b v).get (!b) = k.get (!b) := by
  cases b <;> rfl

/-- Entry `j` of a vector with entry `i` replaced. -/
theorem vector_get_set {α : Type} {n : Nat} (v : Vector α n) (i j : Fin n) (a : α) :
    (v.set i a).get j = if j = i then a else v.get j := by
  change (v.set i a)[j.val] = if j = i then a else v[j.val]
  rw [Vector.getElem_set]
  by_cases h : j = i
  · simp [h]
  · rw [if_neg h, if_neg fun e => h (Fin.ext e.symm)]

/-- The block just written (R186). -/
@[simp] theorem Chan.bank_setBank_self (k : Chan) (t : Fin 9) (b : Bool) (v : Coef) :
    (k.setBank t b v).bank t b = v := by
  simp only [Chan.bank, Chan.setBank_banks, vector_get_set, if_true, Banks.get_set_self]

/-- Every other block (R186). -/
theorem Chan.bank_setBank_ne (k : Chan) {t u : Fin 9} {b d : Bool} (v : Coef) (h : ¬(u = t ∧ d = b)) :
    (k.setBank t b v).bank u d = k.bank u d := by
  simp only [Chan.bank, Chan.setBank_banks, vector_get_set]
  by_cases hu : u = t
  · subst hu
    obtain rfl : d = !b := by cases b <;> cases d <;> simp_all
    simp
  · rw [if_neg hu]

end Sys2Proof.Machine
end

