-- ==== Sys2Proof/Machine/Pseudo.lean ====
section
/-! DEFINITION. The pseudo-commands (R131): fixed host-side sequences of commands. UPDATE and PROCESSBLOCK are lists of
commands; WAITCOMMIT, SNAPSHOT, POP and GENPATH poll, so each is a small host program: a phase, the command the phase
presents, and the phase the answer leads to. None of them has an opcode, and `step` does not know them (log 20). -/

namespace Sys2Proof.Machine

/-- The stage code of a stage number (R121, R130). -/
def stageCode (t : Nat) : BitVec 4 := BitVec.ofNat 4 t

/-- Sections 0 to `S` of a cut filter whose first stage is `base`: each computed by `factory` and stored to both
channels (R199). -/
def updateCut (factory : BitVec 16 → Instr) (base S : Nat) : List Instr :=
  (List.range (S + 1)).flatMap fun i =>
    [factory (BitVec.ofNat 16 i), .setcoef 0#4 (stageCode (base + i)), .setcoef 1#4 (stageCode (base + i))]

/-- The commands of UPDATE (R199), to be presented under its precondition (`updateTick`), with L = `S_LC_SLOPE`,
H = `S_HC_SLOPE`, `S_BYPASS` and `S_ANEN` as in the settings `r`. -/
def update (r : Settings) : List Instr :=
  let L := r.sLcSlope
  let H := r.sHcSlope
  [.facpk, .setcoef 0#4 4#4, .setcoef 1#4 4#4]
    ++ updateCut .faclc 0 L.toNat ++ [.cutcfg 0#4 0#4 (L.setWidth 16), .cutcfg 1#4 0#4 (L.setWidth 16)]
    ++ updateCut .fachc 5 H.toNat ++ [.cutcfg 0#4 2#4 (H.setWidth 16), .cutcfg 1#4 2#4 (H.setWidth 16)]
    ++ ([0#4, 1#4].flatMap fun c => (List.range 3).map fun p =>
        Instr.posbyp c (BitVec.ofNat 4 p) ((bitWord (r.sBypass.getLsbD p)).setWidth 16))
    ++ [.anen (r.sAnen.setWidth 16), .commit]

/-- The command whose answer UPDATE's precondition is read from (R199): RDS of `R_STAT`. -/
def updateQuery : Instr := .rds 15#4

/-- UPDATE's precondition, as the answer to `updateQuery` shows it (R199): `prepared` is 1 and CPEND is 0. -/
def updateReady (a : Answer) : Bool := a.rdata.getLsbD 0 && !a.rdata.getLsbD 1

/-- One control-rate tick (R199): UPDATE under its precondition; otherwise the tick is skipped. -/
def updateTick (r : Settings) (a : Answer) : List Instr := if updateReady a then update r else []

/-- PROCESSBLOCK (R224) for the input buffers of the two channels. -/
def processBlock (l r : List Word) : List Instr :=
  [.blkbeg] ++ l.map (.smp 0#4) ++ r.map (.smp 1#4) ++ [.blkend]

/-- WAITCOMMIT (R200): the command it repeats. -/
def waitCommit : Instr := .rds 15#4

/-- WAITCOMMIT is over (R200): CPEND, bit 1 of `R_STAT`, reads 0. -/
def waitCommitDone (a : Answer) : Bool := !a.rdata.getLsbD 1

/-- SNAPSHOT (R255): where the host stands; `earlier` waits for a snapshot that was pending before. -/
inductive SnapshotPhase where
  | request | earlier | poll | finished
  deriving DecidableEq, Repr

/-- The command a phase of SNAPSHOT presents (R255). -/
def SnapshotPhase.command (ch : BitVec 4) : SnapshotPhase → Option Instr
  | .request => some (.fsnap ch)
  | .earlier => some (.favail ch)
  | .poll => some (.favail ch)
  | .finished => none

/-- The phase of SNAPSHOT after an answer (R255): FAVAIL is repeated until it is not busy, and an FSNAP that was busy is
issued again after that. -/
def SnapshotPhase.next (a : Answer) : SnapshotPhase → SnapshotPhase
  | .request => if a.status = .busy then .earlier else .poll
  | .earlier => if a.status = .busy then .earlier else .request
  | .poll => if a.status = .busy then .poll else .finished
  | .finished => .finished

/-- POP (R256): where the host stands. `read n` has `n` words to read; `lost` counts blocks given up (R254). -/
inductive PopPhase where
  | before (p : SnapshotPhase) (lost : Nat)
  | begin (lost : Nat)
  | read (n : Nat) (lost : Nat)
  | after (p : SnapshotPhase) (lost : Nat)
  | validate (lost : Nat)
  | popped (lost : Nat)
  | empty (lost : Nat)
  deriving DecidableEq, Repr

/-- The start of POP (R256). -/
def PopPhase.start : PopPhase := .before .request 0

/-- The command a phase of POP presents (R256). -/
def PopPhase.command (ch : BitVec 4) : PopPhase → Option Instr
  | .before p _ => p.command ch
  | .begin _ => some (.fpopb ch)
  | .read _ _ => some (.frd ch)
  | .after p _ => p.command ch
  | .validate _ => some (.fpope ch)
  | .popped _ => none
  | .empty _ => none

/-- The phase of POP after an answer (R256), for blocks of `blk` samples. -/
def PopPhase.next (blk : Nat) (a : Answer) : PopPhase → PopPhase
  | .before p lost => if p.next a = .finished then .begin lost else .before (p.next a) lost
  | .begin lost =>
    match a.status with
    | .ok => .read blk lost
    | .empty => .empty lost
    | .overrun => .begin (lost + a.rdata.toNat)
    | .busy | .notPrep | .seq | .operand | .range | .stale | .disabled | .illegal => .empty lost
  | .read n lost => if n ≤ 1 then .after .request lost else .read (n - 1) lost
  | .after p lost => if p.next a = .finished then .validate lost else .after (p.next a) lost
  | .validate lost =>
    match a.status with
    | .ok => .popped lost
    | .busy => .validate lost
    | .overrun => .begin (lost + a.rdata.toNat)
    | .empty | .notPrep | .seq | .operand | .range | .stale | .disabled | .illegal => .empty lost
  | .popped lost => .popped lost
  | .empty lost => .empty lost

/-- GENPATH (R304): where the host stands; `n` counts the blocks accumulated. -/
inductive PathPhase where
  | pop (p : PopPhase) (n : Nat)
  | accumulate (n : Nat)
  | transform | map | publish | finished
  deriving DecidableEq, Repr

/-- The start of GENPATH (R304). -/
def PathPhase.start : PathPhase := .pop .start 0

/-- The command a phase of GENPATH presents (R304). -/
def PathPhase.command (ch : BitVec 4) : PathPhase → Option Instr
  | .pop p _ => p.command ch
  | .accumulate _ => some (.accum ch)
  | .transform => some (.xform ch)
  | .map => some (.map ch)
  | .publish => some (.publish ch)
  | .finished => none

/-- Where GENPATH stands when its POP stands at `p` (R304). -/
def PathPhase.afterPop (n : Nat) (p : PopPhase) : PathPhase :=
  match p with
  | .popped _ => .accumulate n
  | .empty _ => if n = 0 then .finished else .transform
  | .before _ _ | .begin _ | .read _ _ | .after _ _ | .validate _ => .pop p n

/-- The phase of GENPATH after an answer (R304). -/
def PathPhase.next (blk : Nat) (a : Answer) : PathPhase → PathPhase
  | .pop p n => PathPhase.afterPop n (p.next blk a)
  | .accumulate n => .pop .start (n + 1)
  | .transform => .map
  | .map => .publish
  | .publish => .finished
  | .finished => .finished

/-- The commands of a list, presented on their ports: what the host puts among the inputs (R131, log 1). -/
def presented (is : List Instr) : List Event := is.map fun i => commandEvent (encode i).1 (encode i).2

end Sys2Proof.Machine
end

