-- ==== Sys2Proof/Laws/Configured.lean ====
section
/-! SUPPORT. What the operations with a free choice can answer: the functions of NUM (R17, R291), the column table
(R296), and the precondition of UPDATE (R199). -/

namespace Sys2Proof.Machine

namespace F32

/-- What a faithful result can be (R17): one of the two words that bracket the number, or a zero where one of them is.
-/
theorem faithful_cases (raw : Word) (y : Enclosure) :
    faithful raw y = above y.lo ∨ faithful raw y = below y.hi
      ∨ (faithful raw y = pack (sign raw) 0 ∧ (isZero (above y.lo) = true ∨ isZero (below y.hi) = true)) := by
  unfold faithful
  cases raw.getLsbD 0 <;> simp only [if_true, if_false, Bool.false_eq_true] <;> split_ifs with h <;> simp [h]

/-- Where both bracketing words are the same word other than a zero, the result is that word (R17). -/
theorem faithful_of_eq {raw w : Word} {y : Enclosure} (ha : above y.lo = w) (hb : below y.hi = w)
    (hz : isZero w = false) : faithful raw y = w := by
  unfold faithful
  simp [ha, hb, hz]

/-- The lowest magnitude below a number is finite. -/
theorem magBelow_lt (q : ℚ) : magBelow q < infBits := lt_of_le_of_lt (min_le_right _ _) (by decide)

/-- The lowest magnitude above a number is at most that of infinity. -/
theorem magAbove_le (q : ℚ) : magAbove q ≤ infBits := min_le_right _ _

end F32

/-- What the kept output of another transform is (R291, P-FFT-ACC): within the tolerance, or free where neither `F32`
value beside the number is. -/
theorem kept_cases (tol : ℚ) (y : Enclosure) (raw : Word) :
    isWithin tol y (kept tol y raw) = true
      ∨ (kept tol y raw = raw ∧ isWithin tol y (F32.below y.hi) = false ∧ isWithin tol y (F32.above y.lo) = false) := by
  unfold kept
  split_ifs with h1 h2 h3
  · exact .inl h1
  · exact .inl h2
  · exact .inl h3
  · exact .inr ⟨rfl, by simpa using h2, by simpa using h3⟩

/-- The default transform (R290). -/
theorem transform_standard {κ : Config} (ν : Word) (u : List Word) (h : κ.fft = .standard) :
    transform κ ν u = fft κ ν u := by simp [transform, h]

/-- Another transform (R291). -/
theorem transform_other {κ : Config} (ν : Word) (u : List Word) (h : κ.fft = .other) :
    transform κ ν u = (List.range κ.fftN).map (otherFftAt κ u) := by simp [transform, h]

/-- What a column of a real display can be (R296): the ideal one, or one of a table with the named properties. -/
theorem colRange_cases (κ : Config) (x : Nat) {W : Nat} {fs : Word} (hW : 2 ≤ W) (hf : finitePositive fs = true) :
    colRange κ x W fs = idealColumn κ x W (F32.units fs)
      ∨ ∃ t, columnsSound κ W (F32.units fs) t = true ∧ (∀ y, colRange κ y W fs = t y) := by
  unfold colRange
  simp only [hW, hf, and_self, if_true]
  cases κ.colRange
  · exact .inl rfl
  · by_cases h : columnsSound κ W (F32.units fs) (fun y => Config.colRangeRaw κ.log2N y W fs) = true
    · exact .inr ⟨_, h, fun y => by simp [h]⟩
    · exact .inl (by simp [h])

/-- The precondition of UPDATE reads `prepared` and the pending commit off `R_STAT` (R47, R199). -/
theorem updateReady_rds (s : State) :
    exec updateQuery s = .next (s.answered .ok s.rStat)
      ∧ updateReady ⟨.ok, s.rStat⟩ = (s.prepared && !s.commitPending) := by
  refine ⟨rfl, ?_⟩
  have h0 : s.rStat.getLsbD 0 = s.prepared := by
    simp only [State.rStat, State.statBits, ofBits, BitVec.getLsbD_ofNat, Nat.testBit_zero, Config.coreId]
    cases s.prepared <;> simp
    omega
  have h1 : s.rStat.getLsbD 1 = s.commitPending := by
    simp only [State.rStat, State.statBits, ofBits, BitVec.getLsbD_ofNat, Nat.testBit_succ, Nat.testBit_zero,
      Config.coreId]
    cases s.prepared <;> cases s.commitPending <;> simp <;> omega
  simp only [updateReady, h0, h1]

/-- What a tick presents (R199): UPDATE when the block is prepared and no commit is pending, else nothing. -/
theorem updateTick_eq (s : State) :
    updateTick s.settings ⟨.ok, s.rStat⟩ = if s.prepared && !s.commitPending then update s.settings else [] := by
  rw [updateTick, (updateReady_rds s).2]

end Sys2Proof.Machine
end

