-- ==== Sys2Proof/Laws/Memory.lean ====
section
/-! SUPPORT. The laws of the memories: a read after a write, and the canonical form, which every memory operation
keeps. -/

namespace Sys2Proof.Machine

/-- Every index of the memory is above `a`. -/
def Memory.above (a : Nat) (m : Memory) : Prop := ∀ x ∈ m, a < x.1

/-- The canonical form of a memory with a first cell. -/
theorem Memory.wf_cons (a : Nat) (v : Word) (m : Memory) :
    Memory.wf ((a, v) :: m) = true ↔ Memory.above a m ∧ Memory.wf m = true := by
  induction m generalizing a v with
  | nil => simp [Memory.wf, Memory.above]
  | cons b m ih =>
    obtain ⟨b, w⟩ := b
    have hb := ih b w
    simp only [Memory.wf, Bool.and_eq_true, decide_eq_true_eq, Memory.above, List.mem_cons, forall_eq_or_imp] at hb ⊢
    constructor
    · rintro ⟨hab, hm⟩
      exact ⟨⟨hab, fun x hx => lt_trans hab ((hb.1 hm).1 x hx)⟩, hm⟩
    · rintro ⟨⟨hab, -⟩, hm⟩
      exact ⟨hab, hm⟩

/-- A word below every index of the memory has no value. -/
theorem Memory.read_above {a i : Nat} {m : Memory} (h : Memory.above a m) (hi : i ≤ a) : Memory.read m i = none := by
  cases m with
  | nil => rfl
  | cons x m =>
    obtain ⟨b, w⟩ := x
    have hb : a < b := h _ (List.mem_cons_self)
    simp only [Memory.read]
    rw [if_neg (by omega), if_pos (by omega)]

/-- A read after a write. -/
theorem Memory.read_write (m : Memory) (i j : Nat) (w : Word) :
    Memory.read (Memory.write m i w) j = if j = i then some w else Memory.read m j := by
  induction m with
  | nil => by_cases h : j = i <;> simp [Memory.write, Memory.read, h]
  | cons x m ih =>
    obtain ⟨a, v⟩ := x
    simp only [Memory.write]
    by_cases h1 : i < a
    · simp only [if_pos h1, Memory.read]
      split_ifs <;> first | rfl | omega
    · by_cases h2 : i = a
      · subst h2
        simp only [lt_irrefl, if_false, if_true, Memory.read]
        split_ifs <;> rfl
      · simp only [if_neg h1, if_neg h2, Memory.read, ih]
        split_ifs <;> first | rfl | omega

/-- The word just written. -/
@[simp] theorem Memory.read_write_self (m : Memory) (i : Nat) (w : Word) :
    Memory.read (Memory.write m i w) i = some w := by simp [Memory.read_write]

/-- Every other word. -/
theorem Memory.read_write_ne (m : Memory) {i j : Nat} (w : Word) (h : j ≠ i) :
    Memory.read (Memory.write m i w) j = Memory.read m j := by simp [Memory.read_write, h]

/-- A write adds no index but its own. -/
theorem Memory.above_write {a i : Nat} {m : Memory} (w : Word) (h : Memory.above a m) (hi : a < i) :
    Memory.above a (Memory.write m i w) := by
  induction m with
  | nil => simpa [Memory.write, Memory.above] using hi
  | cons x m ih =>
    obtain ⟨b, v⟩ := x
    simp only [Memory.above, List.mem_cons, forall_eq_or_imp] at h
    simp only [Memory.write]
    split_ifs
    · simp only [Memory.above, List.mem_cons, forall_eq_or_imp]
      exact ⟨hi, h.1, h.2⟩
    · simp only [Memory.above, List.mem_cons, forall_eq_or_imp]
      exact ⟨h.1, h.2⟩
    · have := ih h.2
      simp only [Memory.above, List.mem_cons, forall_eq_or_imp] at this ⊢
      exact ⟨h.1, this⟩

/-- A write keeps the canonical form. -/
theorem Memory.wf_write {m : Memory} (i : Nat) (w : Word) (h : Memory.wf m = true) :
    Memory.wf (Memory.write m i w) = true := by
  induction m with
  | nil => rfl
  | cons x m ih =>
    obtain ⟨a, v⟩ := x
    have hx := (Memory.wf_cons a v m).1 h
    simp only [Memory.write]
    split_ifs with h1 h2
    · refine (Memory.wf_cons _ _ _).2 ⟨?_, h⟩
      simp only [Memory.above, List.mem_cons, forall_eq_or_imp]
      exact ⟨h1, fun y hy => lt_trans h1 (hx.1 y hy)⟩
    · subst h2
      exact (Memory.wf_cons _ _ _).2 hx
    · exact (Memory.wf_cons _ _ _).2 ⟨Memory.above_write w hx.1 (by omega), ih hx.2⟩

/-- Writing a list of words keeps the canonical form. -/
theorem Memory.wf_writeFrom {m : Memory} (i : Nat) (ws : List Word) (h : Memory.wf m = true) :
    Memory.wf (Memory.writeFrom m i ws) = true := by
  induction ws generalizing m i with
  | nil => exact h
  | cons w ws ih => exact ih (i + 1) (Memory.wf_write i w h)

/-- A read after writing a list of words: the word of the list, or the old word outside it. -/
theorem Memory.read_writeFrom (m : Memory) (i : Nat) (ws : List Word) (j : Nat) :
    Memory.read (Memory.writeFrom m i ws) j =
      if i ≤ j ∧ j < i + ws.length then ws[j - i]? else Memory.read m j := by
  induction ws generalizing m i with
  | nil => simp [Memory.writeFrom]
  | cons w ws ih =>
    simp only [Memory.writeFrom, ih, Memory.read_write, List.length_cons]
    by_cases h1 : j = i
    · subst h1
      rw [if_neg (by omega), if_pos rfl, if_pos (by omega)]
      simp
    · rw [if_neg h1]
      by_cases h2 : i + 1 ≤ j ∧ j < i + 1 + ws.length
      · rw [if_pos h2, if_pos (by omega)]
        rw [show j - i = (j - (i + 1)) + 1 by omega, List.getElem?_cons_succ]
      · rw [if_neg h2, if_neg (by omega)]

/-- A write never takes a value away. -/
theorem Memory.isSome_read_write {m : Memory} {j : Nat} (i : Nat) (w : Word) (h : (Memory.read m j).isSome = true) :
    (Memory.read (Memory.write m i w) j).isSome = true := by
  rw [Memory.read_write]
  split_ifs
  · rfl
  · exact h

/-- What reading a range answers: the words at the `n` indices from `i` on, each of which has a value. -/
theorem Memory.readRange_eq_some {m : Memory} {i n : Nat} {ws : List Word} (h : Memory.readRange m i n = some ws) :
    ws.length = n ∧ ∀ j, j < n → Memory.read m (i + j) = ws[j]? := by
  induction n generalizing i ws with
  | zero =>
    simp only [Memory.readRange, Option.some.injEq] at h
    subst h
    exact ⟨rfl, fun j hj => absurd hj (by omega)⟩
  | succ n ih =>
    simp only [Memory.readRange] at h
    split at h
    · rename_i w ws' hw hws
      simp only [Option.some.injEq] at h
      subst h
      obtain ⟨hl, hr⟩ := ih hws
      refine ⟨by simp [hl], fun j hj => ?_⟩
      cases j with
      | zero => simpa using hw
      | succ j =>
        have := hr j (by omega)
        rw [show i + (j + 1) = i + 1 + j by omega, this, List.getElem?_cons_succ]
    · exact absurd h (by simp)

/-- A range of written words can be read. -/
theorem Memory.readRange_isSome {m : Memory} {i n : Nat}
    (h : ∀ j, j < n → (Memory.read m (i + j)).isSome = true) : ∃ ws, Memory.readRange m i n = some ws := by
  induction n generalizing i with
  | zero => exact ⟨[], rfl⟩
  | succ n ih =>
    obtain ⟨w, hw⟩ := Option.isSome_iff_exists.1 (h 0 (by omega))
    obtain ⟨ws, hws⟩ := ih (i := i + 1) fun j hj => by
      have := h (j + 1) (by omega)
      rwa [show i + (j + 1) = i + 1 + j by omega] at this
    simp only [Nat.add_zero] at hw
    exact ⟨w :: ws, by simp [Memory.readRange, hw, hws]⟩

/-- The memories right after power-on have the canonical form. -/
theorem State.initial_memory_wf (κ : Config) (c : Channel) (m : MemoryName) :
    Memory.wf ((State.initial κ).memory c m) = true := by
  cases c <;> cases m <;> rfl

end Sys2Proof.Machine
end

