-- ==== Sys2Proof/Laws/Ops.lean ====
section
/-! SUPPORT. What each shared operation can do: one lemma per operation, to be cited instead of unfolding it. -/

namespace Sys2Proof.Machine

/-! ### Answers and conditions -/

@[simp] theorem done_eq (s : State) : done s = .next (s.answered .ok 0#32) := rfl
@[simp] theorem doneWith_eq (s : State) (w : Word) : doneWith s w = .next (s.answered .ok w) := rfl
@[simp] theorem refuse_eq (s : State) (st : Status) : refuse s st = .next (s.answered st 0#32) := rfl
@[simp] theorem overrun_eq (s : State) (w : Word) : overrun s w = .next (s.answered .overrun w) := rfl
@[simp] theorem illegalCommand_eq (s : State) : illegalCommand s = .next (s.answered .illegal 0#32) := rfl

/-- A condition that holds lets the command go on. -/
@[simp] theorem require_true (st : Status) (s : State) (body : Result) : require true st s body = body := rfl

/-- A condition that fails ends the command with its status and no other change (R12, R362). -/
@[simp] theorem require_false (st : Status) (s : State) (body : Result) :
    require false st s body = .next (s.answered st 0#32) := rfl

/-- What a condition lets a command answer: its status with nothing changed, or what the rest answers. -/
theorem require_eq_next {cond : Bool} {st : Status} {s t : State} {body : Result}
    (h : require cond st s body = .next t) :
    (cond = false ∧ t = s.answered st 0#32) ∨ (cond = true ∧ body = .next t) := by
  cases cond
  · exact .inl ⟨rfl, by simpa using h.symm⟩
  · exact .inr ⟨rfl, h⟩

/-- What a memory read lets a command answer: it had a value, and the rest went on with it. -/
theorem withWord_eq_next {m : MemoryName} {r : Option Word} {body : Word → Result} {t : State}
    (h : withWord m r body = .next t) : ∃ w, r = some w ∧ body w = .next t := by
  cases r with
  | none => simp [withWord] at h
  | some w => exact ⟨w, rfl, h⟩

/-- What reading several words lets a command answer: all had a value, and the rest went on with them. -/
theorem withWords_eq_next {m : MemoryName} {r : Option (List Word)} {body : List Word → Result} {t : State}
    (h : withWords m r body = .next t) : ∃ ws, r = some ws ∧ body ws = .next t := by
  cases r with
  | none => simp [withWords] at h
  | some ws => exact ⟨ws, rfl, h⟩

@[simp] theorem withWord_some (m : MemoryName) (w : Word) (body : Word → Result) :
    withWord m (some w) body = body w := rfl
@[simp] theorem withWords_some (m : MemoryName) (ws : List Word) (body : List Word → Result) :
    withWords m (some ws) body = body ws := rfl

/-! ### Operand fields -/

@[simp] theorem channelOf_left : channelOf 0#4 = some .left := rfl
@[simp] theorem channelOf_right : channelOf 1#4 = some .right := rfl

/-- The channel a field names, from its number. -/
theorem channelOf_eq_some {ch : BitVec 4} {c : Channel} (h : channelOf ch = some c) :
    (ch = 0#4 ∧ c = .left) ∨ (ch = 1#4 ∧ c = .right) := by
  revert h
  cases c <;> revert ch <;> decide

/-- A field names no channel exactly when it is above 1 (R124). -/
theorem channelOf_eq_none {ch : BitVec 4} : channelOf ch = none ↔ 1 < ch.toNat := by
  revert ch
  decide

/-- A stage field that is in range. -/
theorem stageOf_of_lt {idx : BitVec 4} (h : idx.toNat < 9) : stageOf idx = some ⟨idx.toNat, h⟩ := dif_pos h

/-- A field names no stage exactly when it is above 8 (R124). -/
theorem stageOf_eq_none {idx : BitVec 4} : stageOf idx = none ↔ 8 < idx.toNat := by
  revert idx
  decide

/-- A field names no chain position exactly when it is above 2 (R124). -/
theorem positionOf_eq_none {idx : BitVec 4} : positionOf idx = none ↔ 2 < idx.toNat := by
  revert idx
  decide

/-- A field names no cut filter exactly when it is neither 0 nor 2 (R124). -/
theorem cutOf_eq_none {idx : BitVec 4} : cutOf idx = none ↔ ¬(idx.toNat = 0 ∨ idx.toNat = 2) := by
  revert idx
  decide

/-- A number names no coefficient word exactly when it is above 4 (R123). -/
theorem coefWordOf_eq_none {k : Nat} : coefWordOf k = none ↔ 4 < k := by
  simp only [coefWordOf, dite_eq_right_iff, reduceCtorEq, imp_false]
  omega

/-- What a command with a `ch` field answers: ST_OPERAND for no channel, else what its body answers on the channel. -/
theorem withChannel_eq_next {ch : BitVec 4} {s t : State} {body : Channel → Result}
    (h : withChannel ch s body = .next t) :
    (channelOf ch = none ∧ t = s.answered .operand 0#32) ∨ ∃ c, channelOf ch = some c ∧ body c = .next t := by
  unfold withChannel at h
  split at h
  · exact .inl ⟨‹_›, by simpa using h.symm⟩
  · exact .inr ⟨_, ‹_›, h⟩

/-- What a command with a stage field answers. -/
theorem withStage_eq_next {idx : BitVec 4} {s t : State} {body : Fin 9 → Result}
    (h : withStage idx s body = .next t) :
    (stageOf idx = none ∧ t = s.answered .operand 0#32) ∨ ∃ u, stageOf idx = some u ∧ body u = .next t := by
  unfold withStage at h
  split at h
  · exact .inl ⟨‹_›, by simpa using h.symm⟩
  · exact .inr ⟨_, ‹_›, h⟩

/-- What a command with a chain position field answers. -/
theorem withPosition_eq_next {idx : BitVec 4} {s t : State} {body : Fin 3 → Result}
    (h : withPosition idx s body = .next t) :
    (positionOf idx = none ∧ t = s.answered .operand 0#32) ∨ ∃ p, positionOf idx = some p ∧ body p = .next t := by
  unfold withPosition at h
  split at h
  · exact .inl ⟨‹_›, by simpa using h.symm⟩
  · exact .inr ⟨_, ‹_›, h⟩

/-- What a command with a cut filter field answers. -/
theorem withCut_eq_next {idx : BitVec 4} {s t : State} {body : Cut → Result} (h : withCut idx s body = .next t) :
    (cutOf idx = none ∧ t = s.answered .operand 0#32) ∨ ∃ cut, cutOf idx = some cut ∧ body cut = .next t := by
  unfold withCut at h
  split at h
  · exact .inl ⟨‹_›, by simpa using h.symm⟩
  · exact .inr ⟨_, ‹_›, h⟩

/-- What a command with a coefficient word number answers. -/
theorem withCoefWord_eq_next {k : Nat} {s t : State} {body : Fin 5 → Result} (h : withCoefWord k s body = .next t) :
    (coefWordOf k = none ∧ t = s.answered .operand 0#32) ∨ ∃ j, coefWordOf k = some j ∧ body j = .next t := by
  unfold withCoefWord at h
  split at h
  · exact .inl ⟨‹_›, by simpa using h.symm⟩
  · exact .inr ⟨_, ‹_›, h⟩

/-- What an analyzer command answers: ST_NOTPREP, ST_DISABLED, or what its body answers (R371, R372). -/
theorem withAnalyzer_eq_next {s t : State} {body : Result} (h : withAnalyzer s body = .next t) :
    (s.prepared = false ∧ t = s.answered .notPrep 0#32)
      ∨ (s.prepared = true ∧ s.analyzerOn = false ∧ t = s.answered .disabled 0#32)
      ∨ (s.prepared = true ∧ s.analyzerOn = true ∧ body = .next t) := by
  obtain ⟨hp, rfl⟩ | ⟨hp, h⟩ := require_eq_next h
  · exact .inl ⟨hp, rfl⟩
  · obtain ⟨ha, rfl⟩ | ⟨ha, h⟩ := require_eq_next h
    · exact .inr (.inl ⟨hp, ha, rfl⟩)
    · exact .inr (.inr ⟨hp, ha, h⟩)

/-! ### Adoption and the agents -/

/-- What adoption at a block boundary leaves: the posted configuration acknowledged, or nothing changed (R194). -/
theorem State.adopt_cases (s : State) :
    (s.cReqA ≠ s.cAck ∧ s.adopt = { s with cfgAct := s.cfgPosted, cAck := s.cReqA })
      ∨ (s.cReqA = s.cAck ∧ s.adopt = s) := by
  unfold State.adopt
  by_cases h : s.cReqA = s.cAck
  · exact .inr ⟨h, by simp [h]⟩
  · exact .inl ⟨h, by simp [h]⟩

/-- What a step of SNP leaves (R244): a snapshot of the write index, acknowledged, or nothing changed. -/
theorem snp_cases (c : Channel) (s : State) :
    ((s.chan c).sReqA ≠ (s.chan c).sAck
        ∧ snp c s = s.setChan c { s.chan c with wrSnap := (s.chan c).wrIdx, sAck := (s.chan c).sReqA })
      ∨ ((s.chan c).sReqA = (s.chan c).sAck ∧ snp c s = s) := by
  unfold snp
  by_cases h : (s.chan c).sReqA = (s.chan c).sAck
  · exact .inr ⟨h, by simp [h]⟩
  · exact .inl ⟨h, by simp [h]⟩

/-- The answer of a command whose word decodes. -/
theorem present_of_decode {p : Port} {cmd wdata : Word} {i : Instr} (s : State) (h : decode p cmd wdata = some i) :
    present p cmd wdata s = exec i s := by simp [present, h]

/-- The answer of a word that is no command of its port (R128). -/
theorem present_of_illegal {p : Port} {cmd wdata : Word} (s : State) (h : decode p cmd wdata = none) :
    present p cmd wdata s = .next (s.answered .illegal 0#32) := by simp [present, h]

end Sys2Proof.Machine
end

