-- ==== Sys2Proof/Laws/PerInstr.lean ====
section
/-! SUPPORT. A family of facts about every command as syntax, one lemma per constructor of `Instr`: the opcode map and
the fields of the command name the command again. -/

namespace Sys2Proof.Laws.Fields

/-- The opcode map names the command from its opcode and its fields (R121, R127). -/
def Statement (i : Instr) : Prop := termOf i.opcode i.chField i.idxField i.immField i.dataField = some i

theorem nop : Statement .nop := rfl
theorem prepare (imm : BitVec 16) (wdata : Word) : Statement (.prepare imm wdata) := rfl
theorem reset : Statement .reset := rfl
theorem wrs (idx : BitVec 4) (wdata : Word) : Statement (.wrs idx wdata) := rfl
theorem rds (idx : BitVec 4) : Statement (.rds idx) := rfl
theorem wrc (idx : BitVec 4) (wdata : Word) : Statement (.wrc idx wdata) := rfl
theorem rdc (idx : BitVec 4) : Statement (.rdc idx) := rfl
theorem facpk : Statement .facpk := rfl
theorem faclc (imm : BitVec 16) : Statement (.faclc imm) := rfl
theorem fachc (imm : BitVec 16) : Statement (.fachc imm) := rfl
theorem setcoef (ch : BitVec 4) (idx : BitVec 4) : Statement (.setcoef ch idx) := rfl
theorem cutcfg (ch : BitVec 4) (idx : BitVec 4) (imm : BitVec 16) : Statement (.cutcfg ch idx imm) := rfl
theorem posbyp (ch : BitVec 4) (idx : BitVec 4) (imm : BitVec 16) : Statement (.posbyp ch idx imm) := rfl
theorem anen (imm : BitVec 16) : Statement (.anen imm) := rfl
theorem commit : Statement .commit := rfl
theorem rdcoef (ch : BitVec 4) (idx : BitVec 4) (imm : BitVec 16) : Statement (.rdcoef ch idx imm) := rfl
theorem rdcfg (ch : BitVec 4) (imm : BitVec 16) : Statement (.rdcfg ch imm) := rfl
theorem blkbeg : Statement .blkbeg := rfl
theorem smp (ch : BitVec 4) (wdata : Word) : Statement (.smp ch wdata) := rfl
theorem blkend : Statement .blkend := rfl
theorem fsnap (ch : BitVec 4) : Statement (.fsnap ch) := rfl
theorem favail (ch : BitVec 4) : Statement (.favail ch) := rfl
theorem fpopb (ch : BitVec 4) : Statement (.fpopb ch) := rfl
theorem frd (ch : BitVec 4) : Statement (.frd ch) := rfl
theorem fpope (ch : BitVec 4) : Statement (.fpope ch) := rfl
theorem accum (ch : BitVec 4) : Statement (.accum ch) := rfl
theorem xform (ch : BitVec 4) : Statement (.xform ch) := rfl
theorem rdbin (ch : BitVec 4) (imm : BitVec 16) : Statement (.rdbin ch imm) := rfl
theorem map (ch : BitVec 4) : Statement (.map ch) := rfl
theorem publish (ch : BitVec 4) : Statement (.publish ch) := rfl
theorem ptake (ch : BitVec 4) : Statement (.ptake ch) := rfl
theorem prd (ch : BitVec 4) (imm : BitVec 16) : Statement (.prd ch imm) := rfl

end Sys2Proof.Laws.Fields
end

