-- ==== Sys2Proof/Machine/Assembly.lean ====
section
/-! DEFINITION. The assembler syntax (R130): one line of text for a command. Numbers are written in the raw forms the
syntax allows: `ch`, `idx` and `imm` in decimal, the data word as `#0x` and eight hexadecimal digits. -/

namespace Sys2Proof.Machine

/-- The mnemonic of a command (R127). -/
def mnemonic : Instr → String
  | .nop => "NOP"
  | .prepare _ _ => "PREPARE"
  | .reset => "RESET"
  | .wrs _ _ => "WRS"
  | .rds _ => "RDS"
  | .wrc _ _ => "WRC"
  | .rdc _ => "RDC"
  | .facpk => "FACPK"
  | .faclc _ => "FACLC"
  | .fachc _ => "FACHC"
  | .setcoef _ _ => "SETCOEF"
  | .cutcfg _ _ _ => "CUTCFG"
  | .posbyp _ _ _ => "POSBYP"
  | .anen _ => "ANEN"
  | .commit => "COMMIT"
  | .rdcoef _ _ _ => "RDCOEF"
  | .rdcfg _ _ => "RDCFG"
  | .blkbeg => "BLKBEG"
  | .smp _ _ => "SMP"
  | .blkend => "BLKEND"
  | .fsnap _ => "FSNAP"
  | .favail _ => "FAVAIL"
  | .fpopb _ => "FPOPB"
  | .frd _ => "FRD"
  | .fpope _ => "FPOPE"
  | .accum _ => "ACCUM"
  | .xform _ => "XFORM"
  | .rdbin _ _ => "RDBIN"
  | .map _ => "MAP"
  | .publish _ => "PUBLISH"
  | .ptake _ => "PTAKE"
  | .prd _ _ => "PRD"

/-- A hexadecimal digit. -/
def hexDigit (n : Nat) : String := ("0123456789ABCDEF".toList.getD n '0').toString

/-- A data word in its raw form (R130). -/
def dataText (w : Word) : String :=
  "#0x" ++ String.join ((List.range 8).map fun i => hexDigit (w.toNat / 16 ^ (7 - i) % 16))

/-- The operands of a command, in the order `ch`, `idx`, `imm`, data word; those its format does not use are not
written (R122, R130). -/
def operandTexts : Instr → List String
  | .nop | .reset | .facpk | .commit | .blkbeg | .blkend => []
  | .fsnap ch | .favail ch | .fpopb ch | .frd ch | .fpope ch | .accum ch | .xform ch | .map ch | .publish ch
  | .ptake ch => [toString ch.toNat]
  | .smp ch w => [toString ch.toNat, dataText w]
  | .rds idx | .rdc idx => [toString idx.toNat]
  | .wrs idx w | .wrc idx w => [toString idx.toNat, dataText w]
  | .faclc imm | .fachc imm | .anen imm => [toString imm.toNat]
  | .prepare imm w => [toString imm.toNat, dataText w]
  | .setcoef ch idx => [toString ch.toNat, toString idx.toNat]
  | .rdcfg ch imm | .rdbin ch imm | .prd ch imm => [toString ch.toNat, toString imm.toNat]
  | .cutcfg ch idx imm | .posbyp ch idx imm | .rdcoef ch idx imm =>
    [toString ch.toNat, toString idx.toNat, toString imm.toNat]

/-- The line of assembly text of a command (R130). -/
def assemblyText (i : Instr) : String :=
  if operandTexts i = [] then mnemonic i else mnemonic i ++ " " ++ String.intercalate ", " (operandTexts i)

end Sys2Proof.Machine
end

