-- ==== Sys2Proof/Tests/Slice0.lean ====
section
/-! SUPPORT. Tests: ill-formed terms that WellFormed refuses, the words of the spec's encoding vectors (V-E1, V-E2),
single steps taken from the worked examples of the rules, and, for every statement with hypotheses, a state and operands
that meet them. -/

namespace Sys2Proof.Tests

open Sys2Proof.Machine

/-! ### Helpers -/

/-- The status and `rdata` of a result. -/
def answerOf : Result → Option Answer
  | .next t => t.answer
  | .fault _ => none
  | .refused _ => none

/-- The state of a result. -/
def stateOf : Result → State
  | .next t => t
  | .fault _ => State.reset
  | .refused _ => State.reset

/-- The result is a next state. -/
def isNext : Result → Bool
  | .next _ => true
  | .fault _ => false
  | .refused _ => false

theorem eq_next_stateOf {r : Result} (h : isNext r = true) : r = .next (stateOf r) := by
  cases r with
  | next t => rfl
  | fault f => cases h
  | refused f => cases h

/-- A state with its left channel changed. -/
def left (s : State) (f : Chan → Chan) : State := { s with chans := { s.chans with left := f s.chans.left } }

/-- A state with both channels changed. -/
def both (s : State) (f : Chan → Chan) : State := { s with chans := s.chans.map f }

/-- Prepared at 48000.0 Hz with blocks of one sample, analyzer enabled. -/
def ready : State :=
  { State.reset with
    prepared := true, rFs := 0x473B8000#32, rBlk := 1#16, settings := { Settings.reset with sAnen := 1#1 } }

/-- As `ready`, with a block open that is pushed. -/
def playing : State := { ready with inBlock := true, pushEn := true }

/-- A commit is pending. -/
def posted : State := { ready with cReq := true }

/-- A pop is open on the left channel, whose one block is the word of 0.5. -/
def popping : State :=
  left ready fun k =>
    { k with slot := [(0, 0x3F000000#32)], wrIdx := 1#32, wrSnap := 1#32, popActive := true }

/-- The pop of `popping` is read, and the snapshot after it is complete. -/
def popRead : State :=
  left popping fun k => { k with popBuf := [(0, 0x3F000000#32)], popCnt := 1#16, snapPost := true }

/-- The shadow configuration selects bank 1 everywhere: every stage is fresh. -/
def allFresh : State :=
  { ready with cfgSh := { Cfg.reset with chans := Cfg.reset.chans.map fun g => { g with sel := .replicate 9 true } } }

/-- Every position of the active configuration is bypassed. -/
def bypassed : State :=
  { playing with
    cfgAct := { Cfg.reset with chans := Cfg.reset.chans.map fun g => { g with posByp := .replicate 3 true } } }

/-! ### WellFormed refuses each unused bit (R123), and so does the decoder -/

theorem test_faclc_bit2_ill_formed : (Instr.faclc 0x0004#16).wellFormed = false := by decide
theorem test_fachc_bit2_ill_formed : (Instr.fachc 0x0004#16).wellFormed = false := by decide
theorem test_anen_bit1_ill_formed : (Instr.anen 0x0002#16).wellFormed = false := by decide
theorem test_cutcfg_bit2_ill_formed : (Instr.cutcfg 0#4 0#4 0x0004#16).wellFormed = false := by decide
theorem test_posbyp_bit1_ill_formed : (Instr.posbyp 0#4 0#4 0x0002#16).wellFormed = false := by decide
theorem test_rdcoef_bit3_ill_formed : (Instr.rdcoef 0#4 4#4 0x0008#16).wellFormed = false := by decide
theorem test_rdcfg_bit1_ill_formed : (Instr.rdcfg 0#4 0x0002#16).wellFormed = false := by decide
theorem test_prd_any_imm_well_formed : (Instr.prd 1#4 0xFFFF#16).wellFormed = true := by decide

/-! ### Decoding (V-E1): one word of each command, written out from R121 to R127 -/

theorem test_decode_nop : decode .ctl 0x00000000#32 0#32 = some (.nop) := by decide
theorem test_decode_prepare :
    decode .ctl 0x10000800#32 0x472C4400#32 = some (.prepare 0x0800#16 0x472C4400#32) := by decide
theorem test_decode_reset : decode .ctl 0x11000000#32 0#32 = some (.reset) := by decide
theorem test_decode_wrs : decode .ctl 0x12010000#32 0x40C00000#32 = some (.wrs 1#4 0x40C00000#32) := by decide
theorem test_decode_rds : decode .ctl 0x130F0000#32 0#32 = some (.rds 15#4) := by decide
theorem test_decode_wrc : decode .ctl 0x14030000#32 0xBF000000#32 = some (.wrc 3#4 0xBF000000#32) := by decide
theorem test_decode_rdc : decode .ctl 0x15040000#32 0#32 = some (.rdc 4#4) := by decide
theorem test_decode_facpk : decode .ctl 0x16000000#32 0#32 = some (.facpk) := by decide
theorem test_decode_faclc : decode .ctl 0x17000003#32 0#32 = some (.faclc 3#16) := by decide
theorem test_decode_fachc : decode .ctl 0x18000001#32 0#32 = some (.fachc 1#16) := by decide
theorem test_decode_setcoef : decode .ctl 0x19170000#32 0#32 = some (.setcoef 1#4 7#4) := by decide
theorem test_decode_cutcfg : decode .ctl 0x1A020001#32 0#32 = some (.cutcfg 0#4 2#4 1#16) := by decide
theorem test_decode_posbyp : decode .ctl 0x1B110001#32 0#32 = some (.posbyp 1#4 1#4 1#16) := by decide
theorem test_decode_anen : decode .ctl 0x1C000001#32 0#32 = some (.anen 1#16) := by decide
theorem test_decode_commit : decode .ctl 0x1D000000#32 0#32 = some (.commit) := by decide
theorem test_decode_rdcoef : decode .ctl 0x1E040013#32 0#32 = some (.rdcoef 0#4 4#4 0x0013#16) := by decide
theorem test_decode_rdcfg : decode .ctl 0x1F100000#32 0#32 = some (.rdcfg 1#4 0#16) := by decide
theorem test_decode_blkbeg : decode .aud 0x20000000#32 0#32 = some (.blkbeg) := by decide
theorem test_decode_smp : decode .aud 0x21100000#32 0x3F800000#32 = some (.smp 1#4 0x3F800000#32) := by decide
theorem test_decode_blkend : decode .aud 0x22000000#32 0#32 = some (.blkend) := by decide
theorem test_decode_fsnap : decode .ana 0x30100000#32 0#32 = some (.fsnap 1#4) := by decide
theorem test_decode_favail : decode .ana 0x31000000#32 0#32 = some (.favail 0#4) := by decide
theorem test_decode_fpopb : decode .ana 0x32000000#32 0#32 = some (.fpopb 0#4) := by decide
theorem test_decode_frd : decode .ana 0x33100000#32 0#32 = some (.frd 1#4) := by decide
theorem test_decode_fpope : decode .ana 0x34000000#32 0#32 = some (.fpope 0#4) := by decide
theorem test_decode_accum : decode .ana 0x35000000#32 0#32 = some (.accum 0#4) := by decide
theorem test_decode_xform : decode .ana 0x36100000#32 0#32 = some (.xform 1#4) := by decide
theorem test_decode_rdbin : decode .ana 0x37000200#32 0#32 = some (.rdbin 0#4 0x0200#16) := by decide
theorem test_decode_map : decode .ana 0x38000000#32 0#32 = some (.map 0#4) := by decide
theorem test_decode_publish : decode .ana 0x39000000#32 0#32 = some (.publish 0#4) := by decide
theorem test_decode_ptake : decode .ren 0x40100000#32 0#32 = some (.ptake 1#4) := by decide
theorem test_decode_prd : decode .ren 0x410001D9#32 0#32 = some (.prd 0#4 0x01D9#16) := by decide

/-! ### Illegal words (V-E2) -/

theorem test_wrong_port_is_illegal :
    decode .ctl 0x20000000#32 0#32 = none ∧ decode .aud 0x16000000#32 0#32 = none
      ∧ decode .ren 0x37000000#32 0#32 = none ∧ decode .ana 0x40000000#32 0#32 = none := by decide
theorem test_unassigned_opcode_is_illegal :
    decode .ctl 0x05000000#32 0#32 = none ∧ decode .ctl 0xFF000000#32 0#32 = none := by decide
theorem test_unused_bits_are_illegal :
    decode .ctl 0x16000001#32 0#32 = none ∧ decode .ctl 0x17000004#32 0#32 = none
      ∧ decode .ctl 0x13000001#32 0#32 = none ∧ decode .ctl 0x10010040#32 0x473B8000#32 = none
      ∧ decode .aud 0x21010000#32 0#32 = none ∧ decode .ctl 0x1E040008#32 0#32 = none := by decide
theorem test_illegal_word_is_answered :
    answerOf (step { State.reset with inputs := [.command .ctl 0x20000000#32 0#32] })
      = some ⟨.illegal, 0#32⟩ := by decide

/-! ### Steps -/

/-- R331, on the REN port. -/
theorem test_nop : answerOf (present .ren 0#32 0#32 State.reset) = some ⟨.ok, 0#32⟩ := by decide
/-- R334's example. -/
theorem test_prepare :
    let t := stateOf (exec (.prepare 64#16 0x473B8000#32) State.reset)
    answerOf (exec (.rds 15#4) t) = some ⟨.ok, 0x01000001#32⟩ ∧ t.rBlk = 64#16 ∧ t.rFs = 0x473B8000#32 := by decide
/-- R363's example: ST_BUSY comes before ST_RANGE. -/
theorem test_prepare_busy_before_range :
    answerOf (exec (.prepare 64#16 0x7FC00000#32) playing) = some ⟨.busy, 0#32⟩ := by decide
/-- R335's example. -/
theorem test_reset :
    let t := stateOf (exec .reset (left posted fun k => { k with wrIdx := 7#32, rdIdx := 5#32 }))
    t.commitPending = false ∧ t.chans.left.wrIdx = 0#32 ∧ t.chans.left.rdIdx = 0#32 := by decide
/-- R338's examples. -/
theorem test_wrs :
    (stateOf (exec (.wrs 1#4 0x40C00000#32) State.reset)).settings.sPkGain = 0x40C00000#32
      ∧ answerOf (exec (.wrs 2#4 0x00000000#32) State.reset) = some ⟨.range, 0#32⟩ := by decide
/-- R338's corner case: -0.0. -/
theorem test_wrs_negative_zero :
    answerOf (exec (.wrs 9#4 0x80000000#32) State.reset) = some ⟨.range, 0#32⟩
      ∧ answerOf (exec (.wrs 11#4 0x80000000#32) State.reset) = some ⟨.ok, 0#32⟩ := by decide
/-- R339's examples. -/
theorem test_rds :
    answerOf (exec (.rds 9#4) State.reset) = some ⟨.ok, 0xC2400000#32⟩
      ∧ answerOf (exec (.rds 15#4) State.reset) = some ⟨.ok, 0x01000000#32⟩ := by decide
/-- R152's example, and V-F1. -/
theorem test_wrc :
    (stateOf (exec (.wrc 3#4 0xBF000000#32) State.reset)).cst.a1 = 0xBF000000#32
      ∧ answerOf (exec (.wrc 0#4 0xFF800000#32) State.reset) = some ⟨.range, 0#32⟩ := by decide
/-- R153's example, and V-F1. -/
theorem test_rdc :
    answerOf (exec (.rdc 0#4) State.reset) = some ⟨.ok, 0x3F800000#32⟩
      ∧ answerOf (exec (.rdc 5#4) State.reset) = some ⟨.operand, 0#32⟩ := by decide
/-- R156's corner case: the Nyquist test is strict. -/
theorem test_facpk_at_nyquist :
    (stateOf (exec .facpk { ready with
      cst := ⟨0#32, 0#32, 0#32, 0#32, 0#32⟩, settings := { ready.settings with sPkFreq := 0x46BB8000#32 } })).cst
      = Coef.ident := by decide
/-- R160: a section above the slope code, before the first PREPARE (R363). -/
theorem test_faclc_above_slope : answerOf (exec (.faclc 1#16) State.reset) = some ⟨.operand, 0#32⟩ := by decide
/-- R164: the power-on high-cut at 32000.0 Hz is the identity. -/
theorem test_fachc_above_nyquist :
    (stateOf (exec (.fachc 0#16) { ready with cst := ⟨0#32, 0#32, 0#32, 0#32, 0#32⟩, rFs := 0x46FA0000#32 })).cst
      = Coef.ident := by decide
/-- R186's example. -/
theorem test_setcoef :
    let t := stateOf (exec (.setcoef 1#4 4#4) { State.reset with cst := ⟨0x3F000000#32, 0#32, 0#32, 0#32, 0#32⟩ })
    (t.chan .right).bank 4 true = ⟨0x3F000000#32, 0#32, 0#32, 0#32, 0#32⟩
      ∧ (t.chan .right).bank 4 false = Coef.ident ∧ (t.cfgSh.chan .right).sel.get 4 = true := by decide
/-- R188's example. -/
theorem test_cutcfg :
    ((stateOf (exec (.cutcfg 0#4 0#4 1#16) allFresh)).cfgSh.chan .left).lcByp.toList = [false, false, true, true]
      ∧ answerOf (exec (.cutcfg 0#4 0#4 0#16) State.reset) = some ⟨.stale, 0#32⟩ := by decide
/-- R190's example. -/
theorem test_posbyp :
    ((stateOf (exec (.posbyp 0#4 1#4 1#16) State.reset)).cfgSh.chan .left).posByp.toList = [false, true, false] := by
  decide
/-- R191's example. -/
theorem test_anen : (stateOf (exec (.anen 1#16) State.reset)).cfgSh.anEn = true := by decide
/-- R192. -/
theorem test_commit :
    (stateOf (exec .commit State.reset)).commitPending = true
      ∧ answerOf (exec .commit posted) = some ⟨.busy, 0#32⟩ := by decide
/-- R196's example. -/
theorem test_rdcoef : answerOf (exec (.rdcoef 0#4 4#4 0#16) State.reset) = some ⟨.ok, 0x3F800000#32⟩ := by decide
/-- R197's example. -/
theorem test_rdcfg : answerOf (exec (.rdcfg 0#4 0#16) State.reset) = some ⟨.ok, 0x0001FE00#32⟩ := by decide
/-- R214's example, and an adoption. -/
theorem test_blkbeg :
    let t := stateOf (exec .blkbeg { ready with cReqA := true, cfgPosted := { Cfg.reset with anEn := true } })
    t.inBlock = true ∧ t.cAck = true ∧ t.pushEn = true := by decide
/-- R216's example: 0.5 through the power-on configuration. -/
theorem test_smp :
    answerOf (exec (.smp 0#4 0x3F000000#32) playing) = some ⟨.ok, 0x3F000000#32⟩
      ∧ (stateOf (exec (.smp 0#4 0x3F000000#32) playing)).chans.left.slot = [(0, 0x3F000000#32)] := by decide +kernel
/-- R370, before the sequence is looked at. -/
theorem test_smp_operand : answerOf (exec (.smp 2#4 0x3F800000#32) State.reset) = some ⟨.operand, 0#32⟩ := by decide
/-- R220. -/
theorem test_blkend :
    let t := stateOf (exec .blkend (both playing fun k => { k with smpCnt := 1#16, wrIdx := 0xFFFFFFFF#32 }))
    t.inBlock = false ∧ t.chans.left.wrIdx = 0#32 ∧ t.chans.right.wrIdx = 0#32 := by decide
/-- R248's example. -/
theorem test_fsnap :
    let t := stateOf (exec (.fsnap 1#4) State.reset)
    t.chans.right.sReq = true ∧ answerOf (exec (.fsnap 1#4) t) = some ⟨.busy, 0#32⟩ := by decide
/-- R250's example. -/
theorem test_favail :
    answerOf (exec (.favail 0#4) (left ready fun k => { k with wrSnap := 3#32 })) = some ⟨.ok, 3#32⟩ := by decide
/-- R251's example. -/
theorem test_fpopb_overrun :
    let r := exec (.fpopb 0#4) (left ready fun k => { k with wrSnap := 40#32, rdIdx := 2#32 })
    answerOf r = some ⟨.overrun, 7#32⟩ ∧ (stateOf r).chans.left.rdIdx = 9#32
      ∧ answerOf (exec (.fpopb 0#4) (stateOf r)) = some ⟨.ok, 31#32⟩ := by decide
/-- R252. -/
theorem test_frd :
    answerOf (exec (.frd 0#4) popping) = some ⟨.ok, 0x3F000000#32⟩
      ∧ (stateOf (exec (.frd 0#4) popping)).chans.left.popBuf = [(0, 0x3F000000#32)] := by decide
/-- R253's example. -/
theorem test_fpope :
    let r := exec (.fpope 0#4) popRead
    answerOf r = some ⟨.ok, 0#32⟩ ∧ (stateOf r).chans.left.rdIdx = 1#32
      ∧ (stateOf r).chans.left.popValid = true := by decide
/-- R283's illustration, second block. -/
theorem test_accum :
    (stateOf (exec (.accum 0#4) (left { ready with rBlk := 4#16 } fun k =>
      { k with
        roll := [0#32, 0#32, 0#32, 0#32, 1#32, 2#32, 3#32, 4#32], popValid := true
        popBuf := [(0, 5#32), (1, 6#32), (2, 7#32), (3, 8#32)] }))).chans.left.roll
      = [1#32, 2#32, 3#32, 4#32, 5#32, 6#32, 7#32, 8#32] := by decide
/-- R281: nothing to transform. -/
theorem test_xform_empty : answerOf (exec (.xform 0#4) ready) = some ⟨.empty, 0#32⟩ := by decide
/-- R293. -/
theorem test_rdbin :
    answerOf (exec (.rdbin 0#4 5#16) (left ready fun k => { k with dbValid := true, db := [(5, 0xC2400000#32)] }))
      = some ⟨.ok, 0xC2400000#32⟩ := by decide
/-- V-E2: bin 1024. -/
theorem test_rdbin_operand : answerOf (exec (.rdbin 0#4 1024#16) ready) = some ⟨.operand, 0#32⟩ := by decide
/-- R372. -/
theorem test_map_disabled :
    answerOf (exec (.map 0#4) { ready with settings := Settings.reset }) = some ⟨.disabled, 0#32⟩ := by decide
/-- R299's example: the floor maps to `D_YBOT`. -/
theorem test_ymap_floor : yMap (fun _ => 0#32) Settings.reset 0xC2400000#32 = 0x3F800000#32 := by decide
/-- R302's example. -/
theorem test_publish :
    let k := (stateOf (exec (.publish 0#4) (left ready fun k => { k with pathReady := true }))).chans.left
    k.pBack = 1 ∧ k.pFront = 0 ∧ k.pHeld = 2 ∧ k.pNew = true ∧ k.pathReady = false := by decide
/-- R312's example. -/
theorem test_ptake :
    let r := exec (.ptake 0#4) (left ready fun k =>
      { k with pBack := 1, pFront := 0, pNew := true, plen := k.plen.set 0 512#16 })
    answerOf r = some ⟨.ok, 512#32⟩ ∧ (stateOf r).chans.left.pHeld = 0 ∧ (stateOf r).chans.left.pFront = 2 := by decide
/-- R313. -/
theorem test_prd :
    answerOf (exec (.prd 0#4 17#16) (left ready fun k =>
      { k with heldValid := true, plen := k.plen.set 2 18#16, pbuf := [(131089, 0x3F800000#32)] }))
      = some ⟨.ok, 0x3F800000#32⟩ := by decide
/-- R244. -/
theorem test_snp :
    (snp .left (left ready fun k => { k with sReqA := true, wrIdx := 5#32 })).chans.left.wrSnap = 5#32 := by decide
/-- R18, R159, R286, R288: entries of the tables. -/
theorem test_tables :
    invQ 3 3 = 0x3EC7C5C2#32 ∧ twiddle 0 = ⟨0x3F800000#32, 0x80000000#32⟩
      ∧ twiddle 256 = ⟨0x3F3504F3#32, 0xBF3504F3#32⟩ ∧ win.head? = some 0x387BA882#32 := by decide +kernel
/-- R15: a tie goes to the even significand, a sum of opposite zeros is +0.0, an overflow is infinite. -/
theorem test_rounding :
    F32.fadd 0#32 0x4B800000#32 0x3F800000#32 = 0x4B800000#32 ∧ F32.fadd 0#32 0x80000000#32 0#32 = 0#32
      ∧ F32.fmul 0#32 0x7F7FFFFF#32 0x40000000#32 = 0x7F800000#32 := by decide
/-- IEEE 754: zeros keep the sign of a quotient, a difference and a root; Inf × x and x / Inf with x finite. -/
theorem test_signed_zeros :
    F32.fdiv 0#32 0x80000000#32 0x3F800000#32 = 0x80000000#32
      ∧ F32.fdiv 0#32 0x00000001#32 0xFF7FFFFF#32 = 0x80000000#32
      ∧ F32.fsub 0#32 0x80000000#32 0#32 = 0x80000000#32 ∧ F32.fsub 0#32 0xBF800000#32 0xBF800000#32 = 0#32
      ∧ F32.fsqrt 0#32 0x80000000#32 = 0x80000000#32 ∧ F32.fmul 0#32 0xFF800000#32 0xBF800000#32 = 0x7F800000#32
      ∧ F32.fdiv 0#32 0xBF800000#32 0x7F800000#32 = 0x80000000#32 := by decide
/-- R17, P-FAITHFUL at points where the exact result is an `F32` value: log10(10.0) = 1.0. -/
theorem test_log10_ten : F32.log10 0x41200000#32 = 0x3F800000#32 :=
  F32.faithful_of_eq (w := 0x3F800000#32) (by decide +kernel) (by decide +kernel) (by decide)
/-- R17, P-FAITHFUL: pow10(1.0) = 10.0. -/
theorem test_pow10_one : F32.pow10 0x3F800000#32 = 0x41200000#32 :=
  F32.faithful_of_eq (w := 0x41200000#32) (by decide +kernel) (by decide +kernel) (by decide)
/-- R17, P-FAITHFUL: cos(+0.0) = 1.0. -/
theorem test_cos_zero : F32.cos 0x00000000#32 = 0x3F800000#32 :=
  F32.faithful_of_eq (w := 0x3F800000#32) (by decide +kernel) (by decide +kernel) (by decide)
/-- R17, P-FAITHFUL: sin(1.0) is 0.841470984… (0x3F576AA4) or the `F32` value above it. -/
theorem test_sin_one :
    F32.below (sinEnclosure (F32.toRat 0x3F800000#32)).hi = 0x3F576AA4#32
      ∧ F32.above (sinEnclosure (F32.toRat 0x3F800000#32)).lo = 0x3F576AA5#32 := by decide +kernel
/-- R199: a tick is taken on a prepared block with no commit pending, and skipped otherwise. -/
theorem test_update_tick :
    updateTick Settings.reset ⟨.ok, ready.rStat⟩ = update Settings.reset
      ∧ updateTick Settings.reset ⟨.ok, posted.rStat⟩ = [] ∧ updateTick Settings.reset ⟨.ok, State.reset.rStat⟩ = [] :=
  ⟨rfl, rfl, rfl⟩
/-- R9: a block of FFT_N 64 and FIFO_CAP 4 takes blocks of up to 64 samples and offers at most 3. -/
theorem test_small_block :
    let κ := { defaultConfig with log2N := 6, log2Cap := 2 }
    let s := left { State.initial κ with prepared := true } fun k => { k with wrSnap := 5#32 }
    answerOf (exec (.prepare 65#16 0x473B8000#32) s) = some ⟨.operand, 0#32⟩
      ∧ answerOf (exec (.prepare 64#16 0x473B8000#32) s) = some ⟨.ok, 0#32⟩
      ∧ answerOf (exec (.favail 0#4) s) = some ⟨.ok, 3#32⟩
      ∧ answerOf (exec (.rdbin 0#4 32#16) s) = some ⟨.operand, 0#32⟩ := by decide
/-- R130's example. -/
theorem test_assembly : assemblyText (.smp 1#4 0x3F800000#32) = "SMP 1, #0x3F800000" := by decide
/-- R199: 15 + 3·(L + H + 2) commands. -/
theorem test_update_length : (update Settings.reset).length = 21
    ∧ (update { Settings.reset with sLcSlope := 3#2, sHcSlope := 3#2 }).length = 39 := by decide

/-! ### Witnesses: states and operands that meet the hypotheses of each statement, one for each clause -/

/-- The default configuration keeps the constraints of R9. -/
theorem default_legal : LegalConfig defaultConfig where
  fft_size := by decide
  fifo_size := by decide
  width := by decide
  rates := by decide
  win := by decide +kernel
  tw := by decide +kernel

/-- A memory of `n` bins at the floor. -/
def floorBins (n : Nat) : Memory := Memory.writeFrom [] 0 (List.replicate n 0xC2400000#32)

theorem floorBins_written (n : Nat) : Written (floorBins n) 0 n := by
  intro j hj
  have hj' : 0 + j < n := by omega
  rw [floorBins, Memory.read_writeFrom, List.length_replicate, if_pos ⟨by omega, by omega⟩, List.getElem?_replicate,
    if_pos (by omega)]
  rfl

/-- StepRunsDecodedCommand: no event, a command, an illegal word, and the responder enabled and not. -/
theorem test_meets_step :
    State.reset.inputs = []
      ∧ (State.reset.withFetchWord 32 0x1D000000).inputs = .command .ctl 0x1D000000#32 0#32 :: []
      ∧ decode .ctl 0x1D000000#32 0#32 = some .commit ∧ decode .aud 0x1D000000#32 0#32 = none
      ∧ ((left ready fun k => { k with sReqA := true }).chan .left).sReqA ≠ (ready.chan .left).sAck
      ∧ (ready.chan .left).sReqA = (ready.chan .left).sAck := by decide
/-- StepRunsDecodedCommand: an illegal word and each event that is no command, next in line. -/
theorem test_meets_step_events :
    let queue := fun e => { ready with inputs := [e] }
    (queue (.command .aud 0x1D000000#32 0#32)).inputs = .command .aud 0x1D000000#32 0#32 :: []
      ∧ (queue .synCreq).inputs = .synCreq :: [] ∧ (queue .synCack).inputs = .synCack :: []
      ∧ (queue (.synSreq .left)).inputs = .synSreq .left :: [] ∧ (queue (.synSack .left)).inputs = .synSack .left :: []
      ∧ (queue (.snp .right)).inputs = .snp .right :: [] ∧ (queue .powerOn).inputs = .powerOn :: [] := by decide
/-- The step itself runs it. -/
theorem test_step_runs_commit :
    answerOf (step (State.reset.withFetchWord 32 0x1D000000)) = some ⟨.ok, 0#32⟩
      ∧ (stateOf (step (State.reset.withFetchWord 32 0x1D000000))).cReq = true := by decide
/-- IllegalWordsChangeNothing. -/
theorem test_meets_illegal : decode .ren 0xFF000000#32 0#32 = none := by decide
/-- DecodeOfEncode and EncodeOfDecode. -/
theorem test_meets_round_trip :
    (Instr.rdcoef 15#4 15#4 0x0017#16).wellFormed = true
      ∧ Port.accepts .ctl (Instr.rdcoef 15#4 15#4 0x0017#16) = true
      ∧ decode .ctl 0x1EFF0017#32 0x12345678#32 = some (.rdcoef 15#4 15#4 0x0017#16) := by decide
/-- PrepareCompletes, at both ends of both ranges. -/
theorem test_meets_prepare :
    1 ≤ (1#16).toNat ∧ (2048#16).toNat ≤ State.reset.config.blkMax
      ∧ F32.isFinite 0x45FA0000#32 = true ∧ F32.fle State.reset.config.fsMin 0x45FA0000#32 = true
      ∧ F32.fle 0x45FA0000#32 State.reset.config.fsMax = true
      ∧ F32.isFinite 0x493B8000#32 = true ∧ F32.fle 0x493B8000#32 State.reset.config.fsMax = true
      ∧ State.reset.inBlock = false ∧ State.reset.chans.left.popActive = false
      ∧ State.reset.chans.right.popActive = false := by decide
/-- ResetCompletes: its first hypotheses hold at `ready`, each case of the second somewhere. -/
theorem test_meets_reset :
    ready.inBlock = false ∧ ready.chans.left.popActive = false ∧ ready.chans.right.popActive = false
      ∧ playing.inBlock = true ∧ popping.chans.left.popActive = true := by decide
/-- WrsCompletes. -/
theorem test_meets_wrs :
    let κ := State.reset.config
    (0#4).toNat ≤ 12 ∧ inLegalSet κ 0#4 0x00000001#32 = true ∧ (12#4).toNat ≤ 12
      ∧ inLegalSet κ 12#4 0x80000000#32 = true ∧ 12 < (13#4).toNat ∧ inLegalSet κ 10#4 1#32 = false
      ∧ inLegalSet κ 10#4 2#32 = true ∧ inLegalSet κ 10#4 4096#32 = true ∧ inLegalSet κ 10#4 4097#32 = false := by
  decide
/-- WrcAndRdcComplete. -/
theorem test_meets_wrc :
    (4#4).toNat ≤ 4 ∧ 4 < (5#4).toNat ∧ F32.isFinite 0x7F7FFFFF#32 = true ∧ F32.isFinite 0x7F800000#32 = false
      ∧ (4 : Fin 5).val = (4#4).toNat := by decide
/-- FacpkCompletes: prepared, with settings inside the domain and, at Nyquist, outside it. -/
theorem test_meets_facpk :
    ready.prepared = true ∧ State.reset.prepared = false
      ∧ F32.isFinite ready.settings.sPkFreq = true ∧ F32.isFinite ready.settings.sPkGain = true
      ∧ F32.isFinite ready.settings.sPkQ = true ∧ F32.isFinite ready.rFs = true
      ∧ F32.fgt ready.settings.sPkFreq 0x00000000#32 = true ∧ F32.fgt ready.settings.sPkQ 0x00000000#32 = true
      ∧ F32.flt ready.settings.sPkFreq (F32.fmul (ready.nan 0) 0x3F000000#32 ready.rFs) = true
      ∧ F32.flt 0x46BB8000#32 (F32.fmul (ready.nan 0) 0x3F000000#32 ready.rFs) = false := by decide
/-- FaclcAndFachcComplete: the last section of a slope code, the one above it, and cutoffs in and outside the domain. -/
theorem test_meets_faclc :
    (3#16).toNat % 4 ≤ (3#2).toNat ∧ (0#16).toNat % 4 ≤ ready.settings.sLcSlope.toNat
      ∧ ready.settings.sHcSlope.toNat < (1#16).toNat % 4
      ∧ F32.isFinite ready.settings.sLcFreq = true ∧ F32.isFinite ready.rFs = true
      ∧ F32.fgt ready.settings.sLcFreq 0x00000000#32 = true
      ∧ F32.flt ready.settings.sLcFreq (F32.fmul (ready.nan 0) 0x3F000000#32 ready.rFs) = true
      ∧ F32.isFinite ready.settings.sHcFreq = true ∧ F32.fgt ready.settings.sHcFreq 0x00000000#32 = true
      ∧ F32.flt ready.settings.sHcFreq (F32.fmul (ready.nan 0) 0x3F000000#32 ready.rFs) = true
      ∧ F32.fgt 0x80000000#32 0x00000000#32 = false := by decide
/-- FactoryEmitsFiniteBlocks. -/
theorem test_meets_factory_finite :
    (∃ t, exec .facpk ready = .next t ∧ t.answer = some ⟨.ok, 0#32⟩)
      ∧ (∃ t, exec (.faclc 0#16) ready = .next t ∧ t.answer = some ⟨.ok, 0#32⟩)
      ∧ (∃ t, exec (.fachc 0#16) ready = .next t ∧ t.answer = some ⟨.ok, 0#32⟩)
      ∧ (∀ j, F32.isFinite (Coef.ident.get j) = true)
      ∧ F32.isFinite ((Coef.ident.set 4 0x7F800000#32).get 4) = false :=
  ⟨⟨_, rfl, rfl⟩, ⟨_, rfl, rfl⟩, ⟨_, rfl, rfl⟩, by decide, by decide⟩
/-- PeakAtZeroGainIsUnity, with either zero. -/
theorem test_meets_zero_gain :
    ready.prepared = true ∧ ready.settings.sPkGain = 0x00000000#32
      ∧ (stateOf (exec (.wrs 1#4 0x80000000#32) ready)).settings.sPkGain = 0x80000000#32
      ∧ (stateOf (exec (.wrs 1#4 0x80000000#32) ready)).prepared = true := by decide
/-- CutSectionsHaveExactZeros, second clause. -/
theorem test_meets_exact_products :
    F32.isFinite 0x3F800000#32 = true ∧ F32.isFinite (F32.fmul 0#32 0x40000000#32 0x3F800000#32) = true
      ∧ F32.isFinite (F32.fmul 0#32 0xC0000000#32 0x3F800000#32) = true := by decide
/-- SetcoefCompletes: no commit pending, a commit pending, the last stage. -/
theorem test_meets_setcoef :
    ready.cReq = ready.cAckC ∧ posted.cReq ≠ posted.cAckC ∧ (8#4).toNat = (8 : Fin 9).val := by decide
/-- CutcfgCompletes: all stages fresh for slope code 3, none fresh for slope code 0. -/
theorem test_meets_cutcfg :
    (∀ j : Fin 4, j.val ≤ (3#16).toNat % 4 → allFresh.fresh .right (Cut.hc.stage j) = true)
      ∧ (∃ j : Fin 4, j.val ≤ (0#16).toNat % 4 ∧ ready.fresh .left (Cut.lc.stage j) = false) := by decide
/-- PosbypAndAnenComplete. -/
theorem test_meets_posbyp : (2#4).toNat = (2 : Fin 3).val ∧ 1 < (2#4).toNat ∧ 2 < (3#4).toNat := by decide
/-- CommitCompletes. -/
theorem test_meets_commit : ready.cReq = ready.cAckC ∧ posted.cReq ≠ posted.cAckC := by decide
/-- RdcoefAndRdcfgComplete: word 4 of stage 8, posted and shadow. -/
theorem test_meets_rdcoef :
    (8#4).toNat = (8 : Fin 9).val ∧ (0x0004#16).toNat % 8 = (4 : Fin 5).val ∧ (0x0004#16).getLsbD 4 = false
      ∧ (0x0014#16).toNat % 8 = (4 : Fin 5).val ∧ (0x0014#16).getLsbD 4 = true := by decide
/-- BlkbegCompletes: a visible commit, none, and both refusals. -/
theorem test_meets_blkbeg :
    ready.prepared = true ∧ ready.inBlock = false ∧ ready.cReqA = ready.cAck ∧ (synCreq posted).cReqA ≠ posted.cAck
      ∧ (synCreq posted).prepared = true ∧ (synCreq posted).inBlock = false ∧ State.reset.prepared = false
      ∧ playing.prepared = true ∧ playing.inBlock = true := by decide
/-- SmpCompletes and ChannelsAreIndependent, with and without a push. -/
theorem test_meets_smp :
    playing.prepared = true ∧ playing.inBlock = true ∧ (playing.chan .left).smpCnt.toNat < playing.rBlk.toNat
      ∧ (playing.chan .right).smpCnt.toNat < playing.rBlk.toNat ∧ playing.pushEn = true
      ∧ { playing with pushEn := false }.pushEn = false
      ∧ (0 : Fin 9) ∉ enabledStages (playing.cfgAct.chan .left) := by decide
/-- SmpBypassedIsIdentity. -/
theorem test_meets_bypassed :
    bypassed.prepared = true ∧ bypassed.inBlock = true ∧ (bypassed.chan .left).smpCnt.toNat < bypassed.rBlk.toNat
      ∧ ∀ u, (bypassed.cfgAct.chan .left).posByp.get (positionOfStage u) = true
        ∨ (bypassed.cfgAct.chan .left).stageByp u = true := by decide
/-- IdentityStageReturnsItsInput: the largest finite input, a zero, and an infinite input. -/
theorem test_meets_identity_stage :
    F32.isFinite 0x7F7FFFFF#32 = true ∧ F32.isZero 0x7F7FFFFF#32 = false ∧ F32.isZero 0x80000000#32 = true
      ∧ F32.isFinite 0x80000000#32 = true ∧ F32.isZero 0x00000000#32 = true ∧ F32.isFinite 0x7F800000#32 = false := by
  decide
/-- BlkendCompletes: a full block, no block, and a channel that is short. -/
theorem test_meets_blkend :
    let s := both playing fun k => { k with smpCnt := 1#16 }
    s.prepared = true ∧ s.inBlock = true ∧ s.chans.left.smpCnt = s.rBlk ∧ s.chans.right.smpCnt = s.rBlk
      ∧ ready.inBlock = false ∧ ready.prepared = true ∧ playing.chans.left.smpCnt ≠ playing.rBlk
      ∧ playing.chans.right.smpCnt ≠ playing.rBlk ∧ State.reset.prepared = false := by decide
/-- FsnapAndFavailComplete: an idle and a pending handshake. -/
theorem test_meets_fsnap :
    (ready.chan .left).sReq = (ready.chan .left).sAckN
      ∧ ((left ready fun k => { k with sReq := true }).chan .left).sReq ≠ false := by decide
/-- FpopbCompletes, at 0, 1, 31 and 32 blocks. -/
theorem test_meets_fpopb :
    ready.config.fifoCap = 32 ∧ ready.prepared = true ∧ ready.settings.sAnen = 1#1
      ∧ (ready.chan .left).popActive = false
      ∧ (ready.chan .left).sReq = (ready.chan .left).sAckN
      ∧ ((ready.chan .left).wrSnap - (ready.chan .left).rdIdx).toNat = 0
      ∧ (1#32 - 0#32).toNat = 1 ∧ (0x0000001E#32 - 0xFFFFFFFF#32).toNat = 31 ∧ 32 ≤ (32#32 - 0#32).toNat := by decide
/-- FrdCompletes: a word to come, and each refusal. -/
theorem test_meets_frd :
    popping.chans.left.popActive = true ∧ popping.chans.left.popCnt.toNat < popping.rBlk.toNat
      ∧ popping.peek .slot .left
          (slotIndex popping.config popping.chans.left.rdIdx popping.chans.left.popCnt.toNat) = some 0x3F000000#32
      ∧ ready.chans.left.popActive = false ∧ popRead.rBlk.toNat ≤ popRead.chans.left.popCnt.toNat := by decide
/-- FpopeCompletes: a valid pop, at 31 and at 32 blocks, and each refusal. -/
theorem test_meets_fpope :
    (popRead.chan .left).popActive = true ∧ (popRead.chan .left).popCnt = popRead.rBlk
      ∧ (popRead.chan .left).snapPost = true ∧ (popRead.chan .left).sReq = (popRead.chan .left).sAckN
      ∧ (31#32 - (popRead.chan .left).rdIdx).toNat ≤ popRead.config.fifoCap - 1
      ∧ popRead.config.fifoCap - 1 < (32#32 - (popRead.chan .left).rdIdx).toNat
      ∧ (ready.chan .left).popActive = false ∧ (popping.chan .left).popCnt ≠ popping.rBlk
      ∧ (popping.chan .left).snapPost = false
      ∧ ((left popRead fun k => { k with sReq := true }).chan .left).sReq ≠ (popRead.chan .left).sAckN := by decide
/-- AccumCompletes. -/
theorem test_meets_accum :
    let s := left popRead fun k => { k with popValid := true }
    s.prepared = true ∧ s.settings.sAnen = 1#1 ∧ s.chans.left.popValid = true ∧ s.chans.left.roll.length = s.config.fftN
      ∧ s.rBlk.toNat ≤ s.config.fftN ∧ Written s.chans.left.popBuf 0 s.rBlk.toNat := by
  refine ⟨rfl, rfl, rfl, List.length_replicate, by decide, fun j hj => ?_⟩
  obtain rfl : j = 0 := by
    have : j < 1 := hj
    omega
  decide
/-- XformCompletes, BinsAreNotBelowTheFloor and SilenceReadsTheFloor. -/
theorem test_meets_xform :
    let s := left ready fun k => { k with newAudio := true }
    s.prepared = true ∧ s.settings.sAnen = 1#1 ∧ (s.chan .left).newAudio = true ∧ LegalConfig s.config
      ∧ 1023 < s.config.fftN / 2 ∧ F32.isFinite s.settings.aFloor = true
      ∧ ∀ w ∈ (s.chan .left).roll, F32.isZero w = true :=
  ⟨rfl, rfl, rfl, default_legal, by decide, by decide, fun w hw => by
    obtain rfl := List.eq_of_mem_replicate hw
    decide⟩
/-- BinsAreNotBelowTheFloor, last clause: a squared magnitude that does not overflow. -/
theorem test_meets_finite_bin :
    F32.isInf (F32.fadd 0#32 (F32.fmul 0#32 0x3F800000#32 0x3F800000#32) (F32.fmul 0#32 0#32 0#32)) = false := by decide
/-- TransformFollowsButterflies. -/
theorem test_meets_transform : defaultConfig.fft = .standard ∧ 2047 < defaultConfig.fftN := ⟨rfl, by decide⟩
/-- RdbinAndPrdComplete: the last bin, the bin after it, the last column, the column after it, and nothing to read. -/
theorem test_meets_rdbin :
    let s := left ready fun k =>
      { k with
        dbValid := true, heldValid := true, plen := .replicate 3 2#16, db := [(1023, 5#32)], pbuf := [(131073, 6#32)] }
    s.peek .db .left (1023#16).toNat = some 5#32 ∧ s.chans.left.dbValid = true ∧ (1023#16).toNat ≤ s.config.nBin - 1
      ∧ s.config.nBin - 1 < (1024#16).toNat ∧ s.chans.left.heldValid = true
      ∧ (1#16).toNat < (s.chans.left.plen.get s.chans.left.pHeld).toNat
      ∧ s.peek .pbuf .left (pathIndex s.chans.left.pHeld (1#16).toNat) = some 6#32
      ∧ (s.chans.left.plen.get s.chans.left.pHeld).toNat ≤ (2#16).toNat
      ∧ ready.chans.left.dbValid = false ∧ ready.chans.left.heldValid = false := by decide
/-- As `ready`, with the first `n` bins written, all at the floor. -/
def binsReady (n : Nat) : State := left ready fun k => { k with dbValid := true, db := floorBins n }
theorem binsReady_meets (n : Nat) :
    (binsReady n).prepared = true ∧ (binsReady n).settings.sAnen = 1#1 ∧ (binsReady n).chans.left.dbValid = true
      ∧ LegalConfig (binsReady n).config ∧ Written (binsReady n).chans.left.db 0 n
      ∧ 2 ≤ (binsReady n).settings.dW.toNat
      ∧ F32.isFinite (binsReady n).rFs = true ∧ F32.fgt (binsReady n).rFs 0x00000000#32 = true :=
  ⟨rfl, rfl, rfl, default_legal, floorBins_written n, (by decide : 2 ≤ ready.settings.dW.toNat),
    (by decide : F32.isFinite ready.rFs = true), (by decide : F32.fgt ready.rFs 0x00000000#32 = true)⟩
/-- MapCompletes, with every bin at the floor. -/
theorem test_meets_map :
    (binsReady 1024).prepared = true ∧ (binsReady 1024).settings.sAnen = 1#1
      ∧ (binsReady 1024).chans.left.dbValid = true ∧ LegalConfig (binsReady 1024).config
      ∧ Written (binsReady 1024).chans.left.db 0 (binsReady 1024).config.nBin
      ∧ 2 ≤ (binsReady 1024).settings.dW.toNat ∧ F32.isFinite (binsReady 1024).rFs = true
      ∧ F32.fgt (binsReady 1024).rFs 0x00000000#32 = true := binsReady_meets 1024
/-- ColumnShowsItsLargestBin. -/
theorem test_meets_column :
    F32.isFinite 0xC2400000#32 = true ∧ Memory.read [(7, 0xC2000000#32)] 7 = some 0xC2000000#32
      ∧ F32.isNaN 0xC2000000#32 = false := by decide
/-- ColumnTableIsIdeal: a legal configuration with the ideal table, the columns of the smallest display, and a bin whose
centre lies in the first of them. -/
theorem test_meets_column_table :
    LegalConfig defaultConfig ∧ defaultConfig.colRange = .ideal ∧ F32.isFinite 0x473B8000#32 = true
      ∧ F32.fgt 0x473B8000#32 0x00000000#32 = true ∧ 1 ≤ defaultConfig.nBin - 1
      ∧ (columnEdges defaultConfig 0 2 (F32.units 0x473B8000#32)).1 ≤ 1
      ∧ 1 < (columnEdges defaultConfig 0 2 (F32.units 0x473B8000#32)).2 :=
  ⟨default_legal, rfl, by decide, by decide, by decide, by decide +kernel, by decide +kernel⟩
/-- The same over the real numbers, where the statement's hypotheses stand: bin 1 at 48000.0 Hz. -/
theorem test_meets_column_cover :
    Reference.columnFrequency ((0 : ℕ) - 1 / 2) 2 ≤ (1 : ℕ) * Reference.value 0x473B8000#32 / defaultConfig.fftN
      ∧ (1 : ℕ) * Reference.value 0x473B8000#32 / defaultConfig.fftN
        < Reference.columnFrequency ((0 : ℕ) + 1 / 2) 2 := by
  have hv : F32.signedUnits 0x473B8000#32 = 48000 * 2 ^ 149 := by decide +kernel
  have hn : defaultConfig.fftN = 2048 := by decide
  have h1 : (1 : ℝ) ≤ 1000 ^ (1 / 2 : ℝ) := Real.one_le_rpow (by norm_num) (by norm_num)
  have h2 : (1000 : ℝ) ^ (-(1 / 2) : ℝ) ≤ 1 := Real.rpow_le_one_of_one_le_of_nonpos (by norm_num) (by norm_num)
  have h3 : (4 : ℝ) ≤ 1000 ^ (1 / 2 : ℝ) := by
    rw [← Real.sqrt_eq_rpow]
    exact Real.le_sqrt_of_sq_le (by norm_num)
  simp only [Reference.columnFrequency, Reference.value, hv, hn]
  norm_num at h1 h2 h3 ⊢
  constructor <;> nlinarith
/-- V-A6's first column of the smallest display at 48000.0 Hz. -/
theorem test_column_table : colRange defaultConfig 0 2 0x473B8000#32 = some (1, 26) := by decide +kernel
/-- PublishAndPtakeComplete. -/
theorem test_meets_publish :
    let s := left ready fun k => { k with pathReady := true, pNew := true }
    s.prepared = true ∧ s.settings.sAnen = 1#1 ∧ s.chans.left.pathReady = true ∧ s.chans.left.pNew = true
      ∧ s.chans.right.pathReady = false ∧ s.chans.right.pNew = false := by decide

/-- The invariants hold of `ready`. -/
theorem ready_inv : Inv ready where
  config := default_legal
  canonical := by
    intro c m
    cases c <;> cases m <;> rfl
  roll_length := by
    intro c
    cases c <;> exact List.length_replicate
  settings := by
    unfold Settings.legal
    decide
  finite := by
    refine ⟨by decide, fun c u b => ?_⟩
    cases c <;> cases b <;> revert u <;> decide
  prefixes := by
    refine ⟨?_, ?_, ?_⟩ <;> intro c cut <;> cases c <;> cases cut <;> unfold PrefixEnabled <;> decide
  buffers := by
    intro c
    cases c <;> (unfold Chan.buffersDistinct; decide)
  counters := by
    intro c
    cases c <;> decide
  prepared := by decide

/-- The flags of `ready` guard nothing unwritten. -/
theorem ready_guarded : Guarded ready := by
  have h : ∀ (m : Memory) (i : Nat), Written m i 0 := fun m i j hj => absurd hj (by omega)
  intro c
  cases c <;> exact
    { fifo := .inr ⟨by decide, by decide, by decide, fun n hn => absurd hn (Nat.not_lt_zero n)⟩
      open_block := fun hp => absurd hp.1 (by decide)
      open_pop := fun hp => absurd hp (by decide)
      popped := fun hp => absurd hp (by decide)
      bins := fun hp => absurd hp (by decide)
      paths := fun b => by fin_cases b <;> exact h _ _ }

/-- HeldPathIsNotWritten: a FSNAP from a state with the invariant. -/
theorem test_meets_held_path :
    Inv ready ∧ (Instr.fsnap 0#4).port? = some .ana
      ∧ exec (.fsnap 0#4) ready = .next (stateOf (exec (.fsnap 0#4) ready)) :=
  ⟨ready_inv, rfl, eq_next_stateOf (by decide)⟩
/-- StatusFollowsPriority: a command that answers, and one that faults. -/
theorem test_meets_status :
    exec .nop ready = .next (stateOf (exec .nop ready))
      ∧ exec (.frd 0#4) (left ready fun k => { k with popActive := true }) = .fault (.unspecifiedRead .slot) :=
  ⟨rfl, rfl⟩
/-- RefusalChangesNothing: ST_BUSY, and ST_OVERRUN from FPOPB and from FPOPE. -/
theorem test_meets_refusal :
    answerOf (exec .commit posted) = some ⟨.busy, 0#32⟩
      ∧ answerOf (exec (.fpopb 0#4) (left ready fun k => { k with wrSnap := 32#32 })) = some ⟨.overrun, 1#32⟩
      ∧ answerOf (exec (.fpope 0#4) (left popRead fun k => { k with wrSnap := 32#32 })) = some ⟨.overrun, 1#32⟩ := by
  decide
/-- EveryElementHasOneWriter: a command of no port and of each port. -/
theorem test_meets_one_writer :
    isNext (exec .nop ready) = true ∧ Instr.nop.port? = none ∧ isNext (exec .commit ready) = true
      ∧ Instr.commit.port? = some .ctl ∧ Instr.commit ≠ .reset ∧ isNext (exec .blkbeg ready) = true
      ∧ Instr.blkbeg.port? = some .aud ∧ isNext (exec (.fsnap 0#4) ready) = true
      ∧ (Instr.fsnap 0#4).port? = some .ana ∧ isNext (exec (.ptake 0#4) ready) = true
      ∧ (Instr.ptake 0#4).port? = some .ren := by decide
/-- AutonomousSteps: the responder enabled. -/
theorem test_meets_snp :
    ((left ready fun k => { k with sReqA := true }).chan .left).sReqA ≠ (ready.chan .left).sAck := by decide
/-- StepKeepsInvariant and StepNeverFaults. -/
theorem test_meets_step_invariant :
    let s := { ready with inputs := [commandEvent 0x1D000000#32 0#32] }
    Inv s ∧ Guarded s ∧ step s = .next (stateOf (step s)) :=
  ⟨⟨ready_inv.config, ready_inv.canonical, ready_inv.roll_length, ready_inv.settings, ready_inv.finite,
    ready_inv.prefixes, ready_inv.buffers, ready_inv.counters, ready_inv.prepared⟩, ready_guarded,
    eq_next_stateOf (by decide)⟩
/-- NothingStartsBeforePrepare. -/
theorem test_meets_idle :
    let s := { State.reset with inputs := [commandEvent 0x30000000#32 0#32] }
    Idle s ∧ s.prepared = false ∧ (1023#16).toNat ≤ s.config.nBin - 1 ∧ (s.chan .left).sReq = (s.chan .left).sAckN
      ∧ step s = .next (stateOf (step s)) := by
  refine ⟨fun _ => ⟨rfl, fun c => ?_⟩, rfl, by decide, rfl, eq_next_stateOf (by decide)⟩
  cases c <;> exact ⟨rfl, rfl, rfl, rfl, rfl, rfl, rfl, rfl, rfl, rfl⟩
/-- StepKeepsCommitInvariant and CommitReachesTheDatapath. -/
theorem test_meets_commit_invariant :
    let s := { ready with inputs := [commandEvent 0x1D000000#32 0#32] }
    CommitInv s ∧ s.commitPending = false ∧ s.cReq = s.cAckC ∧ s.prepared = true ∧ s.inBlock = false
      ∧ step s = .next (stateOf (step s)) :=
  ⟨⟨fun _ => ⟨rfl, rfl⟩, fun h => absurd rfl h, fun _ _ => rfl⟩, rfl, rfl, rfl, rfl, eq_next_stateOf (by decide)⟩
/-- ActiveCoefficientsAreStable: a SETCOEF while a block is open. -/
theorem test_meets_active :
    let e := commandEvent 0x19000000#32 0#32
    CommitInv playing ∧ playing.inBlock = true ∧ e ≠ .powerOn
      ∧ perform e playing = .next (stateOf (perform e playing)) :=
  ⟨⟨fun _ => ⟨rfl, rfl⟩, fun h => absurd rfl h, fun _ _ => rfl⟩, rfl, by decide, eq_next_stateOf (by decide)⟩
/-- SnapshotIsStableWhileIdle: BLKEND of a pushed block on an idle handshake. -/
theorem test_meets_snapshot :
    let s := both { playing with inputs := [commandEvent 0x22000000#32 0#32] } fun k => { k with smpCnt := 1#16 }
    let e := commandEvent 0x22000000#32 0#32
    (∀ c, (s.chan c).snapInv) ∧ (s.chan .left).snapPending = false ∧ e ≠ .powerOn
      ∧ e.instr = some .blkend ∧ perform e s = .next (stateOf (perform e s)) ∧ step s = .next (stateOf (step s)) := by
  refine ⟨fun c => ?_, rfl, by decide, by decide, eq_next_stateOf (by decide), eq_next_stateOf (by decide)⟩
  cases c <;> exact ⟨fun _ => ⟨rfl, rfl⟩, fun h => absurd rfl h⟩
/-- SnapshotCompletes: just asked for, and acknowledged but not yet seen. -/
theorem test_meets_snapshot_pending :
    let s := left ready fun k => { k with sReq := true }
    let u := left ready fun k => { k with sReq := true, sReqA := true, sAck := true }
    (s.chan .left).snapPending = true ∧ (s.chan .left).sAck ≠ (s.chan .left).sReq
      ∧ (u.chan .left).snapPending = true ∧ (u.chan .left).sAck = (u.chan .left).sReq := by decide

/-- What happens between the FPOPB and the FPOPE of `popping`: an FPOPE that is refused with ST_SEQ, FRD, FSNAP, an
FPOPE that is refused with ST_BUSY, and the snapshot handshake. -/
def popEvents : List Event :=
  [.command .ana 0x34000000#32 0#32, .command .ana 0x33000000#32 0#32, .command .ana 0x30000000#32 0#32,
   .command .ana 0x34000000#32 0#32, .synSreq .left, .snp .left, .synSack .left]

/-- The two FPOPEs among `popEvents` are refused. -/
theorem test_pop_events_refused :
    let s := { popping with inputs := popEvents }
    answerOf (steps 1 s) = some ⟨.seq, 0#32⟩ ∧ answerOf (steps 4 s) = some ⟨.busy, 0#32⟩ := by decide

/-- The pop of `popping` is open after each of `popEvents`. -/
theorem popEvents_keep_open (n : Nat) (v : State) (hn : n ≤ popEvents.length)
    (h : steps n { popping with inputs := popEvents ++ [.command .ana 0x34000000#32 0#32] } = .next v) :
    (v.chan .left).popActive = true := by
  have hk : ∀ k : Fin 8, ((stateOf (steps k.val
      { popping with inputs := popEvents ++ [.command .ana 0x34000000#32 0#32] })).chan .left).popActive = true := by
    decide
  have hn' : n < 8 := Nat.lt_succ_of_le hn
  have := hk ⟨n, hn'⟩
  simpa only [h, stateOf] using this

/-- ValidatedPopIsNotTorn: a pop of one word that is read, and validated by a snapshot. -/
theorem test_meets_validated_pop :
    let s := { popping with inputs := popEvents ++ [.command .ana 0x34000000#32 0#32] }
    let t := stateOf (steps popEvents.length s)
    s.inputs = popEvents ++ .command .ana 0x34000000#32 0#32 :: []
      ∧ decode .ana 0x34000000#32 0#32 = some (.fpope Channel.left.code)
      ∧ (∀ n v, n ≤ popEvents.length → steps n s = .next v → (v.chan .left).popActive = true)
      ∧ popEvents.length < 2 ^ 30 ∧ LegalConfig s.config ∧ s.rBlk.toNat ≤ s.config.blkMax
      ∧ (s.chan .left).snapInv ∧ (s.chan .left).popCnt = 0#16 ∧ 1 ≤ ((s.chan .left).wrSnap - (s.chan .left).rdIdx).toNat
      ∧ ((s.chan .left).wrSnap - (s.chan .left).rdIdx).toNat ≤ s.config.fifoCap - 1
      ∧ ((s.chan .left).wrIdx - (s.chan .left).wrSnap).toNat < 2 ^ 30
      ∧ steps popEvents.length s = .next t ∧ step t = .next (stateOf (step t))
      ∧ (stateOf (step t)).answer = some ⟨.ok, 0#32⟩ :=
  ⟨rfl, by decide, popEvents_keep_open, by decide, default_legal, by decide,
    ⟨fun _ => ⟨rfl, rfl⟩, fun h => absurd rfl h⟩, rfl, by decide, by decide, by decide, eq_next_stateOf (by decide),
    eq_next_stateOf (by decide), by decide⟩

/-- BasicOperationsRoundToNearest: finite operands, a divisor other than zero, a value that is not negative, a zero, an
exact zero sum and an exact zero difference. -/
theorem test_meets_rounding :
    F32.isFinite 0x00000000#32 = true ∧ F32.isFinite 0x7F7FFFFF#32 = true ∧ F32.isZero 0x7F7FFFFF#32 = false
      ∧ F32.isZero 0x80000000#32 = true ∧ 0 ≤ Reference.value 0x00000000#32
      ∧ Reference.value 0x00000000#32 + Reference.value 0x80000000#32 = 0
      ∧ Reference.value 0x80000000#32 - Reference.value 0x00000000#32 = 0 := by
  have h0 : F32.signedUnits 0x00000000#32 = 0 := by decide
  have h1 : F32.signedUnits 0x80000000#32 = 0 := by decide
  refine ⟨by decide, by decide, by decide, by decide, ?_, ?_, ?_⟩ <;> simp [Reference.value, h0, h1]
/-- SpecialValuesAndComparisons: an operand of each kind. -/
theorem test_meets_special :
    F32.isNaN 0x7FC00000#32 = true ∧ F32.isInf 0xFF800000#32 = true ∧ F32.isZero 0x80000000#32 = true
      ∧ F32.isZero 0xBF800000#32 = false ∧ F32.sign 0xBF800000#32 = true ∧ F32.isFinite 0xBF800000#32 = true
      ∧ F32.isInf 0x7F800000#32 = true ∧ F32.sign 0x7F800000#32 = false ∧ F32.isNaN 0x7F800000#32 = false := by
  decide

end Sys2Proof.Tests
end

section
/-! What each command can leave: one lemma per command, from which the invariants and the frames below are derived. -/

namespace Sys2Proof.Machine

/-! ### Answers alone -/

/-- `t` is `s` with an answer in its lanes. -/
def Answered (s t : State) : Prop := ∃ st w, t = s.answered st w

theorem Answered.intro (s : State) (st : Status) (w : Word) : Answered s (s.answered st w) := ⟨st, w, rfl⟩

/-- The state of an outcome. -/
theorem eq_of_next {s t : State} (h : (.next s : Result) = .next t) : t = s := (Host.Outcome.next.inj h).symm

/-- The two branches of a command that ends in one of two ways. -/
theorem ite_cases {p : Prop} [Decidable p] {a b : Result} {t : State} (h : (if p then a else b) = .next t) :
    (p ∧ a = .next t) ∨ (¬p ∧ b = .next t) := by
  split at h
  exacts [.inl ⟨‹_›, h⟩, .inr ⟨‹_›, h⟩]

/-- A condition ends the command with an answer alone, or lets it go on. -/
theorem require_cases {cond : Bool} {st : Status} {s t : State} {body : Result}
    (h : require cond st s body = .next t) : Answered s t ∨ (cond = true ∧ body = .next t) :=
  (require_eq_next h).imp (fun h => ⟨_, _, h.2⟩) id

theorem withChannel_cases {ch : BitVec 4} {s t : State} {body : Channel → Result}
    (h : withChannel ch s body = .next t) : Answered s t ∨ ∃ c, channelOf ch = some c ∧ body c = .next t :=
  (withChannel_eq_next h).imp (fun h => ⟨_, _, h.2⟩) id

theorem withStage_cases {idx : BitVec 4} {s t : State} {body : Fin 9 → Result}
    (h : withStage idx s body = .next t) : Answered s t ∨ ∃ u, stageOf idx = some u ∧ body u = .next t :=
  (withStage_eq_next h).imp (fun h => ⟨_, _, h.2⟩) id

theorem withPosition_cases {idx : BitVec 4} {s t : State} {body : Fin 3 → Result}
    (h : withPosition idx s body = .next t) : Answered s t ∨ ∃ p, positionOf idx = some p ∧ body p = .next t :=
  (withPosition_eq_next h).imp (fun h => ⟨_, _, h.2⟩) id

theorem withCut_cases {idx : BitVec 4} {s t : State} {body : Cut → Result}
    (h : withCut idx s body = .next t) : Answered s t ∨ ∃ cut, cutOf idx = some cut ∧ body cut = .next t :=
  (withCut_eq_next h).imp (fun h => ⟨_, _, h.2⟩) id

theorem withCoefWord_cases {k : Nat} {s t : State} {body : Fin 5 → Result}
    (h : withCoefWord k s body = .next t) : Answered s t ∨ ∃ j, coefWordOf k = some j ∧ body j = .next t :=
  (withCoefWord_eq_next h).imp (fun h => ⟨_, _, h.2⟩) id

theorem withAnalyzer_cases {s t : State} {body : Result} (h : withAnalyzer s body = .next t) :
    Answered s t ∨ (s.prepared = true ∧ s.analyzerOn = true ∧ body = .next t) := by
  obtain ⟨-, h⟩ | ⟨-, -, h⟩ | h := withAnalyzer_eq_next h
  exacts [.inl ⟨_, _, h⟩, .inl ⟨_, _, h⟩, .inr h]

/-! ### The CTL port -/

theorem execNop_cases {s t : State} (h : execNop s = .next t) : Answered s t := ⟨_, _, eq_of_next h⟩

theorem execPrepare_cases {imm : BitVec 16} {w : Word} {s t : State} (h : execPrepare imm w s = .next t) :
    Answered s t ∨ ((1 ≤ imm.toNat ∧ imm.toNat ≤ s.config.blkMax) ∧ s.quiescent = true
      ∧ legalRate s.config w = true
      ∧ t = ({ s with rFs := w, rBlk := imm, prepared := true } : State).resetRuntime.answered .ok 0#32) :=
  (require_cases h).elim .inl fun ⟨hb, h⟩ =>
  (require_cases h).elim .inl fun ⟨hq, h⟩ =>
  (require_cases h).elim .inl fun ⟨hr, h⟩ => .inr ⟨by simpa using hb, hq, hr, eq_of_next h⟩

theorem execReset_cases {s t : State} (h : execReset s = .next t) :
    Answered s t ∨ (s.quiescent = true ∧ t = s.resetRuntime.answered .ok 0#32) :=
  (require_cases h).imp id fun ⟨hq, h⟩ => ⟨hq, eq_of_next h⟩

theorem execWrs_cases {idx : BitVec 4} {w : Word} {s t : State} (h : execWrs idx w s = .next t) :
    Answered s t ∨ (legalSetting s.config idx w = true
      ∧ t = ({ s with settings := s.settings.write idx w } : State).answered .ok 0#32) :=
  (require_cases h).elim .inl fun ⟨_, h⟩ =>
  (require_cases h).imp id fun ⟨hl, h⟩ => ⟨hl, eq_of_next h⟩

theorem execRds_cases {idx : BitVec 4} {s t : State} (h : execRds idx s = .next t) : Answered s t :=
  ⟨_, _, eq_of_next h⟩

theorem execWrc_cases {idx : BitVec 4} {w : Word} {s t : State} (h : execWrc idx w s = .next t) :
    Answered s t ∨ ∃ k, F32.isFinite w = true ∧ t = ({ s with cst := s.cst.set k w } : State).answered .ok 0#32 :=
  (withCoefWord_cases h).elim .inl fun ⟨k, _, h⟩ =>
  (require_cases h).imp id fun ⟨hf, h⟩ => ⟨k, hf, eq_of_next h⟩

theorem execRdc_cases {idx : BitVec 4} {s t : State} (h : execRdc idx s = .next t) : Answered s t :=
  (withCoefWord_cases h).elim id fun ⟨_, _, h⟩ => ⟨_, _, eq_of_next h⟩

theorem execFacpk_cases {s t : State} (h : execFacpk s = .next t) :
    Answered s t ∨ t = ({ s with
      cst := peakBlock (s.nan 0) s.settings.sPkFreq s.settings.sPkGain s.settings.sPkQ s.rFs } : State).answered
        .ok 0#32 :=
  (require_cases h).imp id fun ⟨_, h⟩ => eq_of_next h

theorem execFaclc_cases {imm : BitVec 16} {s t : State} (h : execFaclc imm s = .next t) :
    Answered s t ∨ ∃ iq, t = ({ s with
      cst := lowCutBlock (s.nan 0) s.settings.sLcFreq s.rFs iq } : State).answered .ok 0#32 :=
  (require_cases h).elim .inl fun ⟨_, h⟩ =>
  (require_cases h).imp id fun ⟨_, h⟩ => ⟨_, eq_of_next h⟩

theorem execFachc_cases {imm : BitVec 16} {s t : State} (h : execFachc imm s = .next t) :
    Answered s t ∨ ∃ iq, t = ({ s with
      cst := highCutBlock (s.nan 0) s.settings.sHcFreq s.rFs iq } : State).answered .ok 0#32 :=
  (require_cases h).elim .inl fun ⟨_, h⟩ =>
  (require_cases h).imp id fun ⟨_, h⟩ => ⟨_, eq_of_next h⟩

theorem execSetcoef_cases {ch idx : BitVec 4} {s t : State} (h : execSetcoef ch idx s = .next t) :
    Answered s t ∨ ∃ c u, channelOf ch = some c ∧ stageOf idx = some u ∧ s.commitPending = false
      ∧ t = ({ s.setChan c ((s.chan c).setBank u (s.freeBank c u) s.cst) with
          cfgSh := s.cfgSh.setChan c { s.cfgSh.chan c with
            sel := (s.cfgSh.chan c).sel.set u (s.freeBank c u) } } : State).answered .ok 0#32 :=
  (withChannel_cases h).elim .inl fun ⟨c, hc, h⟩ =>
  (withStage_cases h).elim .inl fun ⟨u, hu, h⟩ =>
  (require_cases h).imp id fun ⟨hp, h⟩ => ⟨c, u, hc, hu, by simpa using hp, eq_of_next h⟩

theorem execCutcfg_cases {ch idx : BitVec 4} {imm : BitVec 16} {s t : State} (h : execCutcfg ch idx imm s = .next t) :
    Answered s t ∨ ∃ c cut k, t = ({ s with
      cfgSh := s.cfgSh.setChan c ((s.cfgSh.chan c).setCutByp cut (cutBypass k)) } : State).answered .ok 0#32 :=
  (withChannel_cases h).elim .inl fun ⟨c, _, h⟩ =>
  (withCut_cases h).elim .inl fun ⟨cut, _, h⟩ =>
  (require_cases h).imp id fun ⟨_, h⟩ => ⟨c, cut, _, eq_of_next h⟩

theorem execPosbyp_cases {ch idx : BitVec 4} {imm : BitVec 16} {s t : State} (h : execPosbyp ch idx imm s = .next t) :
    Answered s t ∨ ∃ c, ∃ p : Fin 3, t = ({ s with
      cfgSh := s.cfgSh.setChan c { s.cfgSh.chan c with
        posByp := (s.cfgSh.chan c).posByp.set p (imm.getLsbD 0) } } : State).answered .ok 0#32 :=
  (withChannel_cases h).elim .inl fun ⟨c, _, h⟩ =>
  (withPosition_cases h).imp id fun ⟨p, _, h⟩ => ⟨c, p, eq_of_next h⟩

theorem execAnen_cases {imm : BitVec 16} {s t : State} (h : execAnen imm s = .next t) :
    t = ({ s with cfgSh := { s.cfgSh with anEn := imm.getLsbD 0 } } : State).answered .ok 0#32 := eq_of_next h

theorem execCommit_cases {s t : State} (h : execCommit s = .next t) :
    Answered s t ∨ (s.commitPending = false
      ∧ t = ({ s with cfgPosted := s.cfgSh, cReq := !s.cReq } : State).answered .ok 0#32) :=
  (require_cases h).imp id fun ⟨hp, h⟩ => ⟨by simpa using hp, eq_of_next h⟩

theorem execRdcoef_cases {ch idx : BitVec 4} {imm : BitVec 16} {s t : State} (h : execRdcoef ch idx imm s = .next t) :
    Answered s t :=
  (withChannel_cases h).elim id fun ⟨_, _, h⟩ =>
  (withStage_cases h).elim id fun ⟨_, _, h⟩ =>
  (withCoefWord_cases h).elim id fun ⟨_, _, h⟩ => ⟨_, _, eq_of_next h⟩

theorem execRdcfg_cases {ch : BitVec 4} {imm : BitVec 16} {s t : State} (h : execRdcfg ch imm s = .next t) :
    Answered s t :=
  (withChannel_cases h).elim id fun ⟨_, _, h⟩ => ⟨_, _, eq_of_next h⟩

/-! ### The AUD port -/

theorem execBlkbeg_cases {s t : State} (h : execBlkbeg s = .next t) :
    Answered s t ∨ (s.prepared = true ∧ s.inBlock = false
      ∧ t = ({ s.adopt with
          inBlock := true
          pushEn := s.adopt.cfgAct.anEn
          chans := s.adopt.chans.map fun k => { k with smpCnt := 0#16 } } : State).answered .ok 0#32) :=
  (require_cases h).elim .inl fun ⟨hp, h⟩ =>
  (require_cases h).imp id fun ⟨hb, h⟩ => ⟨hp, by simpa using hb, eq_of_next h⟩

theorem execSmp_cases {ch : BitVec 4} {w : Word} {s t : State} (h : execSmp ch w s = .next t) :
    Answered s t ∨ ∃ c f, s.inBlock = true ∧ (s.chan c).smpCnt.toNat < s.rBlk.toNat
      ∧ f = runChain s.nan (s.chan c) (s.cfgAct.chan c) w
      ∧ t = (s.setChan c { s.chan c with
          z1 := f.z1, z2 := f.z2, slot := (s.chan c).tap s.config s.pushEn f.v
          smpCnt := (s.chan c).smpCnt + 1#16 }).answered .ok f.v :=
  (withChannel_cases h).elim .inl fun ⟨c, _, h⟩ =>
  (require_cases h).elim .inl fun ⟨_, h⟩ =>
  (require_cases h).imp id fun ⟨hb, h⟩ =>
    have hb := Bool.and_eq_true_iff.1 hb
    ⟨c, _, hb.1, of_decide_eq_true hb.2, rfl, eq_of_next h⟩

theorem execBlkend_cases {s t : State} (h : execBlkend s = .next t) :
    Answered s t ∨ (s.inBlock = true ∧ (∀ c, (s.chan c).smpCnt = s.rBlk)
      ∧ t = ({ s with
          inBlock := false
          chans := if s.pushEn then s.chans.map fun k => { k with wrIdx := k.wrIdx + 1#32 } else s.chans } :
            State).answered .ok 0#32) :=
  (require_cases h).elim .inl fun ⟨_, h⟩ =>
  (require_cases h).imp id fun ⟨hb, h⟩ => by
    simp only [Bool.and_eq_true, beq_iff_eq] at hb
    obtain ⟨⟨hb, hl⟩, hr⟩ := hb
    exact ⟨hb, fun c => by cases c; exacts [hl, hr], eq_of_next h⟩

/-! ### The ANA port -/

theorem execFsnap_cases {ch : BitVec 4} {s t : State} (h : execFsnap ch s = .next t) :
    Answered s t ∨ ∃ c, (s.chan c).snapPending = false
      ∧ t = (s.setChan c { s.chan c with sReq := !(s.chan c).sReq, snapPost := true }).answered .ok 0#32 :=
  (withChannel_cases h).elim .inl fun ⟨c, _, h⟩ =>
  (require_cases h).imp id fun ⟨hp, h⟩ => ⟨c, by simpa using hp, eq_of_next h⟩

theorem execFavail_cases {ch : BitVec 4} {s t : State} (h : execFavail ch s = .next t) : Answered s t :=
  (withChannel_cases h).elim id fun ⟨_, _, h⟩ =>
  (require_cases h).elim id fun ⟨_, h⟩ => ⟨_, _, eq_of_next h⟩

/-- FPOPB skips to the oldest intact block (R251, ST_OVERRUN) or opens a pop. -/
theorem execFpopb_cases {ch : BitVec 4} {s t : State} (h : execFpopb ch s = .next t) :
    Answered s t ∨ ∃ c, (s.chan c).popActive = false ∧ (s.chan c).unread ≠ 0#32
      ∧ ((s.config.fifoCap ≤ (s.chan c).unread.toNat
          ∧ t = (s.setChan c { s.chan c with rdIdx := (s.chan c).skipTarget s.config }).answered .overrun
            ((s.chan c).unread - usableBlocks s.config))
        ∨ (s.chan c).unread.toNat < s.config.fifoCap
          ∧ t = (s.setChan c { s.chan c with
              popActive := true, popCnt := 0#16, snapPost := false, popValid := false }).answered .ok
            (s.chan c).unread) :=
  (withChannel_cases h).elim .inl fun ⟨c, _, h⟩ =>
  (require_cases h).elim .inl fun ⟨_, h⟩ =>
  (require_cases h).elim .inl fun ⟨_, h⟩ =>
  (require_cases h).elim .inl fun ⟨ha, h⟩ =>
  (require_cases h).elim .inl fun ⟨_, h⟩ =>
  (require_cases h).imp id fun ⟨hu, h⟩ => by
    refine ⟨c, by simpa using ha, by simpa using hu, ?_⟩
    exact (ite_cases h).imp (fun ⟨hp, h⟩ => ⟨hp, eq_of_next h⟩) fun ⟨hp, h⟩ => ⟨not_le.1 hp, eq_of_next h⟩

theorem execFrd_cases {ch : BitVec 4} {s t : State} (h : execFrd ch s = .next t) :
    Answered s t ∨ ∃ c w, (s.chan c).popActive = true ∧ (s.chan c).popCnt.toNat < s.rBlk.toNat
      ∧ t = (s.setChan c { s.chan c with
          popBuf := Memory.write (s.chan c).popBuf (s.chan c).popCnt.toNat w
          popCnt := (s.chan c).popCnt + 1#16, snapPost := false }).answered .ok w :=
  (withChannel_cases h).elim .inl fun ⟨c, _, h⟩ =>
  (require_cases h).imp id fun ⟨hb, h⟩ =>
    have hb := Bool.and_eq_true_iff.1 hb
    have ⟨w, _, h⟩ := withWord_eq_next h
    ⟨c, w, hb.1, of_decide_eq_true hb.2, eq_of_next h⟩

/-- FPOPE validates the pop, or skips to the oldest intact block (R253, ST_OVERRUN). -/
theorem execFpope_cases {ch : BitVec 4} {s t : State} (h : execFpope ch s = .next t) :
    Answered s t ∨ ∃ c, (s.chan c).popActive = true ∧ (s.chan c).popCnt = s.rBlk
      ∧ (((s.chan c).unread.toNat ≤ s.config.fifoCap - 1
          ∧ t = (s.setChan c { s.chan c with
              popActive := false, rdIdx := (s.chan c).rdIdx + 1#32, popValid := true }).answered .ok
            ((s.chan c).unread - 1#32))
        ∨ (s.config.fifoCap - 1 < (s.chan c).unread.toNat
          ∧ t = (s.setChan c { s.chan c with
              popActive := false, rdIdx := (s.chan c).skipTarget s.config, popValid := false }).answered .overrun
            ((s.chan c).unread - usableBlocks s.config))) :=
  (withChannel_cases h).elim .inl fun ⟨c, _, h⟩ =>
  (require_cases h).elim .inl fun ⟨hb, h⟩ =>
  (require_cases h).imp id fun ⟨_, h⟩ => by
    simp only [Bool.and_eq_true, beq_iff_eq] at hb
    obtain ⟨⟨ha, hn⟩, -⟩ := hb
    refine ⟨c, ha, hn, ?_⟩
    exact (ite_cases h).imp (fun ⟨hp, h⟩ => ⟨hp, eq_of_next h⟩) fun ⟨hp, h⟩ => ⟨not_le.1 hp, eq_of_next h⟩

theorem execAccum_cases {ch : BitVec 4} {s t : State} (h : execAccum ch s = .next t) :
    Answered s t ∨ ∃ c block, s.prepared = true
      ∧ Memory.readRange (s.chan c).popBuf 0 s.rBlk.toNat = some block
      ∧ t = (s.setChan c { s.chan c with
          roll := (s.chan c).roll.drop s.rBlk.toNat ++ block, popValid := false, newAudio := true }).answered
        .ok 0#32 :=
  (withChannel_cases h).elim .inl fun ⟨c, _, h⟩ =>
  (withAnalyzer_cases h).elim .inl fun ⟨hp, _, h⟩ =>
  (require_cases h).imp id fun ⟨_, h⟩ =>
    have ⟨block, hr, h⟩ := withWords_eq_next h
    ⟨c, block, hp, hr, eq_of_next h⟩

theorem execXform_cases {ch : BitVec 4} {s t : State} (h : execXform ch s = .next t) :
    Answered s t ∨ ∃ c, t = (s.setChan c { s.chan c with
      db := Memory.writeFrom (s.chan c).db 0 (spectrum s.config (s.nan 0) s.settings.aFloor (s.chan c).roll)
      newAudio := false, dbValid := true }).answered .ok 0#32 :=
  (withChannel_cases h).elim .inl fun ⟨c, _, h⟩ =>
  (withAnalyzer_cases h).elim .inl fun ⟨_, _, h⟩ =>
  (require_cases h).imp id fun ⟨_, h⟩ => ⟨c, eq_of_next h⟩

theorem execRdbin_cases {ch : BitVec 4} {imm : BitVec 16} {s t : State} (h : execRdbin ch imm s = .next t) :
    Answered s t :=
  (withChannel_cases h).elim id fun ⟨_, _, h⟩ =>
  (require_cases h).elim id fun ⟨_, h⟩ =>
  (require_cases h).elim id fun ⟨_, h⟩ =>
    have ⟨_, _, h⟩ := withWord_eq_next h
    ⟨_, _, eq_of_next h⟩

theorem execMap_cases {ch : BitVec 4} {s t : State} (h : execMap ch s = .next t) :
    Answered s t ∨ ∃ c ws,
      pathWords s.config s.nan (s.chan c).db s.settings s.rFs 0 s.settings.dW.toNat = some ws
      ∧ t = (s.setChan c { s.chan c with
          pbuf := Memory.writeFrom (s.chan c).pbuf (pathIndex (s.chan c).pBack 0) ws
          plen := (s.chan c).plen.set (s.chan c).pBack s.settings.dW
          pathReady := true }).answered .ok 0#32 :=
  (withChannel_cases h).elim .inl fun ⟨c, _, h⟩ =>
  (withAnalyzer_cases h).elim .inl fun ⟨_, _, h⟩ =>
  (require_cases h).imp id fun ⟨_, h⟩ =>
    have ⟨ws, hw, h⟩ := withWords_eq_next h
    ⟨c, ws, hw, eq_of_next h⟩

theorem execPublish_cases {ch : BitVec 4} {s t : State} (h : execPublish ch s = .next t) :
    Answered s t ∨ ∃ c, t = (s.setChan c { s.chan c with
      pBack := (s.chan c).pFront, pFront := (s.chan c).pBack, pNew := true, pathReady := false }).answered .ok 0#32 :=
  (withChannel_cases h).elim .inl fun ⟨c, _, h⟩ =>
  (withAnalyzer_cases h).elim .inl fun ⟨_, _, h⟩ =>
  (require_cases h).imp id fun ⟨_, h⟩ => ⟨c, eq_of_next h⟩

/-! ### The REN port -/

theorem execPtake_cases {ch : BitVec 4} {s t : State} (h : execPtake ch s = .next t) :
    Answered s t ∨ ∃ c, t = (s.setChan c { s.chan c with
      pHeld := (s.chan c).pFront, pFront := (s.chan c).pHeld, pNew := false, heldValid := true }).answered .ok
        (((s.chan c).plen.get (s.chan c).pFront).setWidth 32) :=
  (withChannel_cases h).elim .inl fun ⟨c, _, h⟩ =>
  (require_cases h).imp id fun ⟨_, h⟩ => ⟨c, eq_of_next h⟩

theorem execPrd_cases {ch : BitVec 4} {imm : BitVec 16} {s t : State} (h : execPrd ch imm s = .next t) :
    Answered s t :=
  (withChannel_cases h).elim id fun ⟨_, _, h⟩ =>
  (require_cases h).elim id fun ⟨_, h⟩ =>
  (require_cases h).elim id fun ⟨_, h⟩ =>
    have ⟨_, _, h⟩ := withWord_eq_next h
    ⟨_, _, eq_of_next h⟩

end Sys2Proof.Machine
end

section
/-! Which agent writes what (R30): the frame of the commands of each port. -/

namespace Sys2Proof.Machine

/-- What a command of CTL other than PREPARE and RESET may change (R30). -/
def CtlFrame (s t : State) : Prop :=
  SameMemory s t ∧ t = { s with
    answer := t.answer, cst := t.cst, settings := t.settings, cfgSh := t.cfgSh, cfgPosted := t.cfgPosted
    cReq := t.cReq
    chans := ⟨{ s.chans.left with banks := t.chans.left.banks }, { s.chans.right with banks := t.chans.right.banks }⟩ }

/-- What a command of AUD may change (R30). -/
def AudFrame (s t : State) : Prop :=
  t = { s with
    answer := t.answer, cfgAct := t.cfgAct, cAck := t.cAck, inBlock := t.inBlock, pushEn := t.pushEn
    chans := ⟨audPart s.chans.left t.chans.left, audPart s.chans.right t.chans.right⟩ }

/-- What a command of ANA may change (R30). -/
def AnaFrame (s t : State) : Prop :=
  t = { s with
    answer := t.answer
    chans := ⟨anaPart s.chans.left t.chans.left, anaPart s.chans.right t.chans.right⟩ }

/-- What a command of REN may change (R30). -/
def RenFrame (s t : State) : Prop :=
  SameMemory s t ∧ t = { s with
    answer := t.answer
    chans := ⟨renPart s.chans.left t.chans.left, renPart s.chans.right t.chans.right⟩ }

/-! ### An answer alone is inside every frame -/

theorem Answered.onlyAnswer {s t : State} (h : Answered s t) : OnlyAnswer s t := by
  obtain ⟨st, w, rfl⟩ := h
  exact ⟨rfl, fun m c i => State.peek_answered s st w m c i⟩

theorem Answered.ctlFrame {s t : State} (h : Answered s t) : CtlFrame s t := by
  refine ⟨h.onlyAnswer.2, ?_⟩
  obtain ⟨st, w, rfl⟩ := h
  rfl

theorem Answered.audFrame {s t : State} (h : Answered s t) : AudFrame s t := by
  obtain ⟨st, w, rfl⟩ := h
  rfl

theorem Answered.anaFrame {s t : State} (h : Answered s t) : AnaFrame s t := by
  obtain ⟨st, w, rfl⟩ := h
  rfl

theorem Answered.renFrame {s t : State} (h : Answered s t) : RenFrame s t := by
  refine ⟨h.onlyAnswer.2, ?_⟩
  obtain ⟨st, w, rfl⟩ := h
  rfl

/-! ### Changes inside a frame -/

/-- Memories are read off the channels alone. -/
theorem SameMemory.of_memory {s t : State} (h : ∀ c m, t.memory c m = s.memory c m) : SameMemory s t :=
  fun m c i => by rw [State.peek, State.peek, h c m]

/-- A change of the elements CTL writes that leaves the channels alone. -/
theorem ctlFrame_of_chans (s : State) {t : State} (hm : t.chans = s.chans)
    (ht : t = { s with
      answer := t.answer, cst := t.cst, settings := t.settings, cfgSh := t.cfgSh, cfgPosted := t.cfgPosted
      cReq := t.cReq }) : CtlFrame s t := by
  refine ⟨.of_memory fun c m => by cases m <;> simp [State.memory, State.chan, hm], ?_⟩
  rw [hm]
  exact ht

/-- Replacing one channel, seen as what a port writes of each channel. -/
theorem Pair.set_eq_parts {part : Chan → Chan → Chan} (hself : ∀ k, part k k = k) {p : Pair Chan} {c : Channel}
    {k : Chan} (hk : k = part (p.get c) k) :
    p.set c k = ⟨part p.left (p.set c k).left, part p.right (p.set c k).right⟩ := by
  cases c
  · exact congrArg₂ Pair.mk hk (hself _).symm
  · exact congrArg₂ Pair.mk (hself _).symm hk

theorem anaFrame_setChan {s : State} {c : Channel} {k : Chan} (hk : k = anaPart (s.chan c) k) (st : Status) (w : Word) :
    AnaFrame s ((s.setChan c k).answered st w) :=
  congrArg (fun p => ({ s with answer := some ⟨st, w⟩, chans := p } : State)) (Pair.set_eq_parts (fun _ => rfl) hk)

theorem audFrame_setChan {s : State} {c : Channel} {k : Chan} (hk : k = audPart (s.chan c) k) (st : Status) (w : Word) :
    AudFrame s ((s.setChan c k).answered st w) :=
  congrArg (fun p => ({ s with answer := some ⟨st, w⟩, chans := p } : State)) (Pair.set_eq_parts (fun _ => rfl) hk)

/-- Taking a path writes nothing of a memory. -/
theorem renFrame_setChan {s : State} {c : Channel} {k : Chan} (hk : k = renPart (s.chan c) k) (st : Status) (w : Word) :
    RenFrame s ((s.setChan c k).answered st w) := by
  refine ⟨.of_memory fun d m => ?_,
    congrArg (fun p => ({ s with answer := some ⟨st, w⟩, chans := p } : State)) (Pair.set_eq_parts (fun _ => rfl) hk)⟩
  rw [hk]
  cases c <;> cases d <;> cases m <;> rfl

/-- SETCOEF writes one bank of one channel (R186). -/
theorem ctlFrame_setBank (s : State) (c : Channel) (u : Fin 9) (b : Bool) (v : Coef) (g : Cfg) (st : Status)
    (w : Word) : CtlFrame s (({ s.setChan c ((s.chan c).setBank u b v) with cfgSh := g } : State).answered st w) := by
  refine ⟨.of_memory fun d m => ?_, ?_⟩ <;> cases c
  · cases d <;> cases m <;> rfl
  · cases d <;> cases m <;> rfl
  · rfl
  · rfl

/-- BLKBEG adopts and opens the block (R214). -/
theorem audFrame_blkbeg (s : State) (st : Status) (w : Word) :
    AudFrame s (({ s.adopt with
      inBlock := true
      pushEn := s.adopt.cfgAct.anEn
      chans := s.adopt.chans.map fun k => { k with smpCnt := 0#16 } } : State).answered st w) := by
  obtain ⟨-, ha⟩ | ⟨-, ha⟩ := s.adopt_cases <;> rw [ha] <;> rfl

/-! ### The commands of each port -/

theorem exec_ctlFrame {i : Instr} {s t : State} (hp : i.port? = some .ctl) (hr : i ≠ .reset)
    (hq : ∀ imm w, i ≠ .prepare imm w) (h : exec i s = .next t) : CtlFrame s t := by
  cases i with
  | prepare imm w => exact absurd rfl (hq imm w)
  | reset => exact absurd rfl hr
  | wrs idx w =>
    obtain h | ⟨-, rfl⟩ := execWrs_cases h
    exacts [h.ctlFrame, ctlFrame_of_chans s rfl rfl]
  | rds idx => exact (execRds_cases h).ctlFrame
  | wrc idx w =>
    obtain h | ⟨k, -, rfl⟩ := execWrc_cases h
    exacts [h.ctlFrame, ctlFrame_of_chans s rfl rfl]
  | rdc idx => exact (execRdc_cases h).ctlFrame
  | facpk =>
    obtain h | rfl := execFacpk_cases h
    exacts [h.ctlFrame, ctlFrame_of_chans s rfl rfl]
  | faclc imm =>
    obtain h | ⟨iq, rfl⟩ := execFaclc_cases h
    exacts [h.ctlFrame, ctlFrame_of_chans s rfl rfl]
  | fachc imm =>
    obtain h | ⟨iq, rfl⟩ := execFachc_cases h
    exacts [h.ctlFrame, ctlFrame_of_chans s rfl rfl]
  | setcoef ch idx =>
    obtain h | ⟨c, u, -, -, -, rfl⟩ := execSetcoef_cases h
    exacts [h.ctlFrame, ctlFrame_setBank s c u _ _ _ _ _]
  | cutcfg ch idx imm =>
    obtain h | ⟨c, cut, k, rfl⟩ := execCutcfg_cases h
    exacts [h.ctlFrame, ctlFrame_of_chans s rfl rfl]
  | posbyp ch idx imm =>
    obtain h | ⟨c, p, rfl⟩ := execPosbyp_cases h
    exacts [h.ctlFrame, ctlFrame_of_chans s rfl rfl]
  | anen imm =>
    obtain rfl := execAnen_cases h
    exact ctlFrame_of_chans s rfl rfl
  | commit =>
    obtain h | ⟨-, rfl⟩ := execCommit_cases h
    exacts [h.ctlFrame, ctlFrame_of_chans s rfl rfl]
  | rdcoef ch idx imm => exact (execRdcoef_cases h).ctlFrame
  | rdcfg ch imm => exact (execRdcfg_cases h).ctlFrame
  | _ => simp [Instr.port?] at hp

theorem exec_audFrame {i : Instr} {s t : State} (hp : i.port? = some .aud) (h : exec i s = .next t) :
    AudFrame s t := by
  cases i with
  | blkbeg =>
    obtain h | ⟨-, -, rfl⟩ := execBlkbeg_cases h
    exacts [h.audFrame, audFrame_blkbeg s _ _]
  | smp ch w =>
    obtain h | ⟨c, f, -, -, -, rfl⟩ := execSmp_cases h
    exacts [h.audFrame, audFrame_setChan rfl _ _]
  | blkend =>
    obtain h | ⟨-, -, rfl⟩ := execBlkend_cases h
    · exact h.audFrame
    · unfold AudFrame
      cases s.pushEn <;> rfl
  | _ => simp [Instr.port?] at hp

theorem exec_anaFrame {i : Instr} {s t : State} (hp : i.port? = some .ana) (h : exec i s = .next t) :
    AnaFrame s t := by
  cases i with
  | fsnap ch =>
    obtain h | ⟨c, -, rfl⟩ := execFsnap_cases h
    exacts [h.anaFrame, anaFrame_setChan rfl _ _]
  | favail ch => exact (execFavail_cases h).anaFrame
  | fpopb ch =>
    obtain h | ⟨c, -, -, ⟨-, rfl⟩ | ⟨-, rfl⟩⟩ := execFpopb_cases h
    exacts [h.anaFrame, anaFrame_setChan rfl _ _, anaFrame_setChan rfl _ _]
  | frd ch =>
    obtain h | ⟨c, w, -, -, rfl⟩ := execFrd_cases h
    exacts [h.anaFrame, anaFrame_setChan rfl _ _]
  | fpope ch =>
    obtain h | ⟨c, -, -, ⟨-, rfl⟩ | ⟨-, rfl⟩⟩ := execFpope_cases h
    exacts [h.anaFrame, anaFrame_setChan rfl _ _, anaFrame_setChan rfl _ _]
  | accum ch =>
    obtain h | ⟨c, block, -, -, rfl⟩ := execAccum_cases h
    exacts [h.anaFrame, anaFrame_setChan rfl _ _]
  | xform ch =>
    obtain h | ⟨c, rfl⟩ := execXform_cases h
    exacts [h.anaFrame, anaFrame_setChan rfl _ _]
  | rdbin ch imm => exact (execRdbin_cases h).anaFrame
  | map ch =>
    obtain h | ⟨c, ws, -, rfl⟩ := execMap_cases h
    exacts [h.anaFrame, anaFrame_setChan rfl _ _]
  | publish ch =>
    obtain h | ⟨c, rfl⟩ := execPublish_cases h
    exacts [h.anaFrame, anaFrame_setChan rfl _ _]
  | _ => simp [Instr.port?] at hp

theorem exec_renFrame {i : Instr} {s t : State} (hp : i.port? = some .ren) (h : exec i s = .next t) :
    RenFrame s t := by
  cases i with
  | ptake ch =>
    obtain h | ⟨c, rfl⟩ := execPtake_cases h
    exacts [h.renFrame, renFrame_setChan rfl _ _]
  | prd ch imm => exact (execPrd_cases h).renFrame
  | _ => simp [Instr.port?] at hp

/-- NOP is the one command that every port accepts (R127). -/
theorem eq_nop_of_port {i : Instr} (hp : i.port? = none) : i = .nop := by
  cases i with
  | nop => rfl
  | _ => simp [Instr.port?] at hp

/-- Settles O48: each command stays inside the frame of its port. -/
theorem everyElementHasOneWriter : Obligations.EveryElementHasOneWriter := by
  intro i s t h
  refine ⟨fun hp => ?_, fun hp hr hq => exec_ctlFrame hp hr hq h, fun hp => exec_audFrame hp h,
    fun hp => exec_anaFrame hp h, fun hp => exec_renFrame hp h⟩
  obtain rfl := eq_nop_of_port hp
  exact (execNop_cases h).onlyAnswer

/-- No command changes the configuration (R80). -/
theorem exec_config {i : Instr} {s t : State} (h : exec i s = .next t) : t.config = s.config := by
  match hp : i.port? with
  | none =>
    obtain rfl := eq_nop_of_port hp
    rw [(execNop_cases h).onlyAnswer.1]
  | some .aud => rw [exec_audFrame hp h]
  | some .ana => rw [exec_anaFrame hp h]
  | some .ren => rw [(exec_renFrame hp h).2]
  | some .ctl =>
    by_cases hr : i = .reset
    · subst hr
      obtain ⟨st, w, rfl⟩ | ⟨-, rfl⟩ := execReset_cases h <;> rfl
    · by_cases hq : ∃ imm w, i = .prepare imm w
      · obtain ⟨imm, w, rfl⟩ := hq
        obtain ⟨st, w, rfl⟩ | ⟨-, -, -, rfl⟩ := execPrepare_cases h <;> rfl
      · rw [(exec_ctlFrame hp hr (fun imm w hi => hq ⟨imm, w, hi⟩) h).2]

end Sys2Proof.Machine
end

section
/-! Every step keeps the invariant of the machine's data. -/

namespace Sys2Proof.Machine

/-! ### What a step is -/

/-- A step takes the next event, or nothing happens (R7, R96). -/
theorem step_cases {s t : State} (h : step s = .next t) :
    t = s ∨ ∃ e rest, s.inputs = e :: rest ∧ perform e (s.accept rest) = .next t := by
  unfold step at h
  split at h
  · exact .inl (eq_of_next h)
  · exact .inr ⟨_, _, ‹_›, h⟩

/-- What a presented word does: the command it is, or ST_ILLEGAL alone (R126, R128). -/
theorem present_cases {p : Port} {cmd wdata : Word} {s t : State} (h : present p cmd wdata s = .next t) :
    Answered s t ∨ ∃ i, decode p cmd wdata = some i ∧ exec i s = .next t := by
  unfold present at h
  split at h
  · exact .inl ⟨_, _, eq_of_next h⟩
  · exact .inr ⟨_, ‹_›, h⟩

/-! ### The invariant, channel by channel -/

/-- The part of `Inv` about one channel, for blocks of `blk` samples. -/
structure Chan.Sound (κ : Config) (blk : Nat) (k : Chan) : Prop where
  slot : Memory.wf k.slot = true
  popBuf : Memory.wf k.popBuf = true
  db : Memory.wf k.db = true
  pbuf : Memory.wf k.pbuf = true
  roll : k.roll.length = κ.fftN
  finite : ∀ t b, (k.bank t b).allFinite = true
  buffers : k.buffersDistinct
  smpCnt : k.smpCnt.toNat ≤ blk
  popCnt : k.popCnt.toNat ≤ blk

/-- The part of `Inv` about the rest of the state. -/
structure State.Sound (s : State) : Prop where
  config : LegalConfig s.config
  settings : s.settings.legal s.config
  cst : s.cst.allFinite = true
  cfgSh : s.cfgSh.prefixes
  cfgPosted : s.cfgPosted.prefixes
  cfgAct : s.cfgAct.prefixes
  prepared : s.prepared = true → legalRate s.config s.rFs = true ∧ 1 ≤ s.rBlk.toNat ∧ s.rBlk.toNat ≤ s.config.blkMax

/-- `Inv` is an invariant of each channel and one of the rest. -/
theorem inv_iff {s : State} : Inv s ↔ s.Sound ∧ ∀ c, (s.chan c).Sound s.config s.rBlk.toNat where
  mp h := ⟨⟨h.config, h.settings, h.finite.1, h.prefixes.1, h.prefixes.2.1, h.prefixes.2.2, h.prepared⟩, fun c =>
    ⟨h.canonical c .slot, h.canonical c .popBuf, h.canonical c .db, h.canonical c .pbuf, h.roll_length c, h.finite.2 c,
      h.buffers c, (h.counters c).1, (h.counters c).2⟩⟩
  mpr := fun ⟨h, hc⟩ =>
    { config := h.config
      canonical := fun c m => by
        cases m
        exacts [(hc c).slot, (hc c).popBuf, (hc c).db, (hc c).pbuf]
      roll_length := fun c => (hc c).roll
      settings := h.settings
      finite := ⟨h.cst, fun c => (hc c).finite⟩
      prefixes := ⟨h.cfgSh, h.cfgPosted, h.cfgAct⟩
      buffers := fun c => (hc c).buffers
      counters := fun c => ⟨(hc c).smpCnt, (hc c).popCnt⟩
      prepared := h.prepared }

theorem Inv.sound {s : State} (h : Inv s) : s.Sound := (inv_iff.1 h).1

theorem Inv.chan {s : State} (h : Inv s) (c : Channel) : (s.chan c).Sound s.config s.rBlk.toNat := (inv_iff.1 h).2 c

theorem Inv.answered {s : State} (h : Inv s) (st : Status) (w : Word) : Inv (s.answered st w) :=
  inv_iff.2 ⟨{ h.sound with }, h.chan⟩

theorem Answered.inv {s t : State} (ha : Answered s t) (h : Inv s) : Inv t := by
  obtain ⟨st, w, rfl⟩ := ha
  exact h.answered st w

theorem Inv.accept {s : State} (h : Inv s) (rest : List Event) : Inv (s.accept rest) :=
  inv_iff.2 ⟨{ h.sound with }, h.chan⟩

/-- Replacing one channel by a sound one. -/
theorem Inv.setChan {s : State} (h : Inv s) {c : Channel} {k : Chan} (hk : k.Sound s.config s.rBlk.toNat) :
    Inv (s.setChan c k) := by
  refine inv_iff.2 ⟨{ h.sound with }, fun d => ?_⟩
  rw [State.chan_setChan]
  split
  exacts [hk, h.chan d]

/-- A command that replaces one channel by a sound one. -/
theorem Inv.setChan_answered {s : State} (h : Inv s) {c : Channel} {k : Chan} {st : Status} {w : Word}
    (hk : k.Sound s.config s.rBlk.toNat) : Inv ((s.setChan c k).answered st w) :=
  (h.setChan hk).answered st w

/-- Changing both channels in the same way. -/
theorem Inv.mapChans {s : State} (h : Inv s) {f : Chan → Chan}
    (hf : ∀ k : Chan, k.Sound s.config s.rBlk.toNat → (f k).Sound s.config s.rBlk.toNat) :
    Inv { s with chans := s.chans.map f } := by
  refine inv_iff.2 ⟨{ h.sound with }, fun c => ?_⟩
  rw [State.chan, Pair.get_map]
  exact hf _ (h.chan c)

/-! ### Configuration records -/

/-- A slope code enables the first stages of the filter (R188, R189). -/
theorem prefixEnabled_cutBypass (k : Nat) : PrefixEnabled (cutBypass k) := by
  have hget (i : Fin 4) : (cutBypass k).get i = decide (k < i.val) := by
    simp [cutBypass, Vector.get_eq_getElem]
  intro i j hij hi
  rw [hget, decide_eq_true_eq] at hi ⊢
  exact lt_trans hi hij

theorem Cfg.prefixes_setChan {g : Cfg} (h : g.prefixes) {c : Channel} {k : ChanCfg}
    (hk : ∀ cut, PrefixEnabled (k.cutByp cut)) : (g.setChan c k).prefixes := by
  intro d cut
  rw [Cfg.chan_setChan]
  split
  exacts [hk cut, h d cut]

theorem Cfg.prefixes_setCutByp {g : Cfg} (h : g.prefixes) (c : Channel) (cut : Cut) (k : Nat) :
    (g.setChan c ((g.chan c).setCutByp cut (cutBypass k))).prefixes := by
  refine Cfg.prefixes_setChan h fun d => ?_
  rw [ChanCfg.cutByp_setCutByp]
  split
  exacts [prefixEnabled_cutBypass k, h c d]

theorem Inv.withCfgSh {s : State} (h : Inv s) {g : Cfg} (hg : g.prefixes) : Inv { s with cfgSh := g } :=
  inv_iff.2 ⟨{ h.sound with cfgSh := hg }, h.chan⟩

/-! ### Coefficients (R151, R186) -/

theorem allFinite_ident : Coef.ident.allFinite = true := by decide

/-- The clamp of the factory's boundary lets finite words out only (R151). -/
theorem allFinite_finalize (k : Coef) : (finalize k).allFinite = true := by
  unfold finalize
  split
  exacts [‹_›, allFinite_ident]

theorem allFinite_peakBlock (ν f g q fs : Word) : (peakBlock ν f g q fs).allFinite = true := by
  unfold peakBlock
  split
  exacts [allFinite_finalize _, allFinite_ident]

theorem allFinite_lowCutBlock (ν fc fs iq : Word) : (lowCutBlock ν fc fs iq).allFinite = true := by
  unfold lowCutBlock
  split
  exacts [allFinite_finalize _, allFinite_ident]

theorem allFinite_highCutBlock (ν fc fs iq : Word) : (highCutBlock ν fc fs iq).allFinite = true := by
  unfold highCutBlock
  split
  exacts [allFinite_finalize _, allFinite_ident]

theorem Coef.allFinite_set {k : Coef} (h : k.allFinite = true) (j : Fin 5) {w : Word} (hw : F32.isFinite w = true) :
    (k.set j w).allFinite = true := by
  simp only [Coef.allFinite, Bool.and_eq_true] at h ⊢
  obtain ⟨⟨⟨⟨h0, h1⟩, h2⟩, h3⟩, h4⟩ := h
  fin_cases j <;> simp [Coef.set, *]

theorem Inv.withCst {s : State} (h : Inv s) {k : Coef} (hk : k.allFinite = true) : Inv { s with cst := k } :=
  inv_iff.2 ⟨{ h.sound with cst := hk }, h.chan⟩

theorem Chan.Sound.setBank {κ : Config} {blk : Nat} {k : Chan} (h : k.Sound κ blk) (u : Fin 9) (b : Bool) {v : Coef}
    (hv : v.allFinite = true) : (k.setBank u b v).Sound κ blk :=
  { h with
    finite := fun t d => by
      by_cases htd : t = u ∧ d = b
      · obtain ⟨rfl, rfl⟩ := htd
        rwa [Chan.bank_setBank_self]
      · rw [Chan.bank_setBank_ne k v htd]
        exact h.finite t d }

/-! ### Settings (R40, R338) -/

/-- A write that WRS lets through keeps the settings legal (R338). -/
theorem Settings.legal_write {κ : Config} {r : Settings} (h : r.legal κ) {idx : BitVec 4} {w : Word}
    (hw : legalSetting κ idx w = true) : (r.write idx w).legal κ := by
  obtain ⟨h0, h1, h2, h3, h4, h9, h9', h10, h10', h11, h12⟩ := h
  have hdw : w.toNat < 2 ^ 16 → (w.setWidth 16).toNat = w.toNat := fun hlt => by
    rw [BitVec.toNat_setWidth, Nat.mod_eq_of_lt hlt]
  unfold legalSetting at hw
  unfold Settings.write
  split at hw
  case h_10 =>
    simp only [Bool.and_eq_true] at hw
    exact ⟨h0, h1, h2, h3, h4, hw.1, hw.2, h10, h10', h11, h12⟩
  case h_11 =>
    simp only [Bool.and_eq_true, decide_eq_true_eq] at hw
    obtain ⟨⟨hlo, hhi⟩, hlt⟩ := hw
    refine ⟨h0, h1, h2, h3, h4, h9, h9', ?_, .inl ?_, h11, h12⟩ <;> simpa only [hdw hlt]
  case h_14 => exact absurd hw Bool.false_ne_true
  all_goals simp only [Settings.legal, *, and_self]

/-! ### Counters and memories -/

/-- A counter below the block size does not wrap (R345). -/
theorem toNat_succ_le {x y : BitVec 16} (h : x.toNat < y.toNat) : (x + 1#16).toNat = x.toNat + 1 := by
  bv_omega

theorem Chan.wf_tap {k : Chan} (h : Memory.wf k.slot = true) (κ : Config) (push : Bool) (v : Word) :
    Memory.wf (k.tap κ push v) = true := by
  unfold Chan.tap
  split
  exacts [Memory.wf_write _ _ h, h]

/-- Shifting the rolling buffer by a block keeps its length (R283). -/
theorem length_drop_append {α : Type} {roll block : List α} {n N : Nat} (hr : roll.length = N) (hb : block.length = n)
    (hn : n ≤ N) : (roll.drop n ++ block).length = N := by
  simp only [List.length_append, List.length_drop]
  omega

/-! ### The commands -/

theorem Chan.Sound.resetRuntime {κ : Config} {blk : Nat} {k : Chan} (h : k.Sound κ blk) (blk' : Nat) :
    (k.resetRuntime κ.fftN).Sound κ blk' :=
  { slot := h.slot, popBuf := h.popBuf, db := h.db, pbuf := h.pbuf, finite := h.finite
    roll := List.length_replicate
    buffers := by simp [Chan.buffersDistinct]
    smpCnt := Nat.zero_le _
    popCnt := Nat.zero_le _ }

/-- `reset_runtime()`, with any sample rate and block size that PREPARE lets through (R336). -/
theorem Inv.resetRuntime {s : State} (h : Inv s) {fs : Word} {blk : BitVec 16} {p : Bool}
    (hp : p = true → legalRate s.config fs = true ∧ 1 ≤ blk.toNat ∧ blk.toNat ≤ s.config.blkMax) :
    Inv ({ s with rFs := fs, rBlk := blk, prepared := p } : State).resetRuntime := by
  refine inv_iff.2 ⟨{ h.sound with cfgAct := h.sound.cfgPosted, prepared := hp }, fun c => ?_⟩
  rw [State.chan_resetRuntime]
  exact (h.chan c).resetRuntime _

theorem Inv.adopt {s : State} (h : Inv s) : Inv s.adopt := by
  obtain ⟨-, ha⟩ | ⟨-, ha⟩ := s.adopt_cases <;> rw [ha]
  exacts [inv_iff.2 ⟨{ h.sound with cfgAct := h.sound.cfgPosted }, h.chan⟩, h]

/-- The commands of CTL: each writes values that the invariant admits, or resets the runtime state. -/
theorem exec_ctl_inv {i : Instr} {s t : State} (hp : i.port? = some .ctl) (h : exec i s = .next t) (hs : Inv s) :
    Inv t := by
  cases i with
  | prepare imm w =>
    obtain h | ⟨hb, -, hr, rfl⟩ := execPrepare_cases h
    exacts [h.inv hs, (hs.resetRuntime fun _ => ⟨hr, hb⟩).answered _ _]
  | reset =>
    obtain h | ⟨-, rfl⟩ := execReset_cases h
    exacts [h.inv hs, (hs.resetRuntime hs.prepared).answered _ _]
  | wrs idx w =>
    obtain h | ⟨hw, rfl⟩ := execWrs_cases h
    · exact h.inv hs
    · exact inv_iff.2 ⟨{ hs.sound with settings := Settings.legal_write hs.settings hw }, hs.chan⟩
  | rds idx => exact (execRds_cases h).inv hs
  | wrc idx w =>
    obtain h | ⟨k, hw, rfl⟩ := execWrc_cases h
    exacts [h.inv hs, (hs.withCst (Coef.allFinite_set hs.sound.cst k hw)).answered _ _]
  | rdc idx => exact (execRdc_cases h).inv hs
  | facpk =>
    obtain h | rfl := execFacpk_cases h
    exacts [h.inv hs, (hs.withCst (allFinite_peakBlock _ _ _ _ _)).answered _ _]
  | faclc imm =>
    obtain h | ⟨iq, rfl⟩ := execFaclc_cases h
    exacts [h.inv hs, (hs.withCst (allFinite_lowCutBlock _ _ _ _)).answered _ _]
  | fachc imm =>
    obtain h | ⟨iq, rfl⟩ := execFachc_cases h
    exacts [h.inv hs, (hs.withCst (allFinite_highCutBlock _ _ _ _)).answered _ _]
  | setcoef ch idx =>
    obtain h | ⟨c, u, -, -, -, rfl⟩ := execSetcoef_cases h
    · exact h.inv hs
    · refine ((hs.setChan ((hs.chan c).setBank u _ hs.sound.cst)).withCfgSh ?_).answered _ _
      exact Cfg.prefixes_setChan hs.sound.cfgSh fun cut => hs.sound.cfgSh c cut
  | cutcfg ch idx imm =>
    obtain h | ⟨c, cut, k, rfl⟩ := execCutcfg_cases h
    exacts [h.inv hs, (hs.withCfgSh (Cfg.prefixes_setCutByp hs.sound.cfgSh c cut k)).answered _ _]
  | posbyp ch idx imm =>
    obtain h | ⟨c, p, rfl⟩ := execPosbyp_cases h
    · exact h.inv hs
    · refine Inv.answered (hs.withCfgSh ?_) _ _
      exact Cfg.prefixes_setChan hs.sound.cfgSh fun cut => hs.sound.cfgSh c cut
  | anen imm =>
    obtain rfl := execAnen_cases h
    refine Inv.answered (hs.withCfgSh ?_) _ _
    exact hs.sound.cfgSh
  | commit =>
    obtain h | ⟨-, rfl⟩ := execCommit_cases h
    exacts [h.inv hs, inv_iff.2 ⟨{ hs.sound with cfgPosted := hs.sound.cfgSh }, hs.chan⟩]
  | rdcoef ch idx imm => exact (execRdcoef_cases h).inv hs
  | rdcfg ch imm => exact (execRdcfg_cases h).inv hs
  | _ => simp [Instr.port?] at hp

/-- The commands of AUD: the sample counter stays within the block. -/
theorem exec_aud_inv {i : Instr} {s t : State} (hp : i.port? = some .aud) (h : exec i s = .next t) (hs : Inv s) :
    Inv t := by
  cases i with
  | blkbeg =>
    obtain h | ⟨-, -, rfl⟩ := execBlkbeg_cases h
    · exact h.inv hs
    · have ha := hs.adopt.mapChans (f := fun k => { k with smpCnt := 0#16 })
        fun k hk => { hk with smpCnt := Nat.zero_le _ }
      exact inv_iff.2 ⟨{ ha.sound with }, ha.chan⟩
  | smp ch w =>
    obtain h | ⟨c, f, -, hb, -, rfl⟩ := execSmp_cases h
    · exact h.inv hs
    · have hk := hs.chan c
      exact hs.setChan_answered { hk with
        slot := Chan.wf_tap hk.slot _ _ _
        smpCnt := (toNat_succ_le hb).le.trans hb }
  | blkend =>
    obtain h | ⟨-, -, rfl⟩ := execBlkend_cases h
    · exact h.inv hs
    · cases s.pushEn
      · exact inv_iff.2 ⟨{ hs.sound with }, hs.chan⟩
      · have ha := hs.mapChans (f := fun k => { k with wrIdx := k.wrIdx + 1#32 }) fun k hk => { hk with }
        exact inv_iff.2 ⟨{ ha.sound with }, ha.chan⟩
  | _ => simp [Instr.port?] at hp

/-- The commands of ANA: each replaces one channel by one that is sound. -/
theorem exec_ana_inv {i : Instr} {s t : State} (hp : i.port? = some .ana) (h : exec i s = .next t) (hs : Inv s) :
    Inv t := by
  have hk := hs.chan
  cases i with
  | fsnap ch =>
    obtain h | ⟨c, -, rfl⟩ := execFsnap_cases h
    exacts [h.inv hs, hs.setChan_answered { hk c with }]
  | favail ch => exact (execFavail_cases h).inv hs
  | fpopb ch =>
    obtain h | ⟨c, -, -, ⟨-, rfl⟩ | ⟨-, rfl⟩⟩ := execFpopb_cases h
    · exact h.inv hs
    · exact hs.setChan_answered { hk c with }
    · exact hs.setChan_answered { hk c with popCnt := Nat.zero_le _ }
  | frd ch =>
    obtain h | ⟨c, w, -, hb, rfl⟩ := execFrd_cases h
    · exact h.inv hs
    · exact hs.setChan_answered { hk c with
        popBuf := Memory.wf_write _ _ (hk c).popBuf
        popCnt := (toNat_succ_le hb).le.trans hb }
  | fpope ch =>
    obtain h | ⟨c, -, -, ⟨-, rfl⟩ | ⟨-, rfl⟩⟩ := execFpope_cases h
    exacts [h.inv hs, hs.setChan_answered { hk c with }, hs.setChan_answered { hk c with }]
  | accum ch =>
    obtain h | ⟨c, block, hpr, hb, rfl⟩ := execAccum_cases h
    · exact h.inv hs
    · exact hs.setChan_answered { hk c with
        roll := length_drop_append (hk c).roll (Memory.readRange_eq_some hb).1 (hs.prepared hpr).2.2 }
  | xform ch =>
    obtain h | ⟨c, rfl⟩ := execXform_cases h
    exacts [h.inv hs, hs.setChan_answered { hk c with db := Memory.wf_writeFrom _ _ (hk c).db }]
  | rdbin ch imm => exact (execRdbin_cases h).inv hs
  | map ch =>
    obtain h | ⟨c, ws, -, rfl⟩ := execMap_cases h
    exacts [h.inv hs, hs.setChan_answered { hk c with pbuf := Memory.wf_writeFrom _ _ (hk c).pbuf }]
  | publish ch =>
    obtain h | ⟨c, rfl⟩ := execPublish_cases h
    · exact h.inv hs
    · obtain ⟨hbf, hbh, hfh⟩ := (hk c).buffers
      exact hs.setChan_answered { hk c with buffers := ⟨hbf.symm, hfh, hbh⟩ }
  | _ => simp [Instr.port?] at hp

/-- The commands of REN: PTAKE exchanges two buffer numbers. -/
theorem exec_ren_inv {i : Instr} {s t : State} (hp : i.port? = some .ren) (h : exec i s = .next t) (hs : Inv s) :
    Inv t := by
  cases i with
  | ptake ch =>
    obtain h | ⟨c, rfl⟩ := execPtake_cases h
    · exact h.inv hs
    · have hk := hs.chan c
      obtain ⟨hbf, hbh, hfh⟩ := hk.buffers
      exact hs.setChan_answered { hk with buffers := ⟨hbh, hbf, hfh.symm⟩ }
  | prd ch imm => exact (execPrd_cases h).inv hs
  | _ => simp [Instr.port?] at hp

/-- Every command keeps the invariant. -/
theorem exec_inv {i : Instr} {s t : State} (h : exec i s = .next t) (hs : Inv s) : Inv t := by
  match hp : i.port? with
  | none =>
    obtain rfl := eq_nop_of_port hp
    exact (execNop_cases h).inv hs
  | some .ctl => exact exec_ctl_inv hp h hs
  | some .aud => exact exec_aud_inv hp h hs
  | some .ana => exact exec_ana_inv hp h hs
  | some .ren => exact exec_ren_inv hp h hs

/-! ### Power-on -/

theorem vector_get_replicate {α : Type} (n : Nat) (a : α) (i : Fin n) : (Vector.replicate n a).get i = a := by
  simp only [Vector.get_eq_getElem, Vector.getElem_replicate]

/-- Every stage of a cut filter is bypassed at power-on (R84). -/
theorem Cfg.prefixes_reset : Cfg.reset.prefixes := by
  intro c cut i j _ _
  have hc : Cfg.reset.chan c = .reset := by cases c <;> rfl
  rw [hc]
  cases cut <;> exact vector_get_replicate 4 true j

theorem Settings.legal_reset (κ : Config) : Settings.reset.legal κ :=
  ⟨by decide, by decide, by decide, by decide, by decide, by decide, by decide, by decide, .inr rfl, by decide,
    by decide⟩

/-- Both banks of every stage are the identity at power-on (R84). -/
theorem Chan.bank_reset (n : Nat) (t : Fin 9) (b : Bool) : (Chan.reset n).bank t b = .ident := by
  rw [Chan.bank, Chan.reset, vector_get_replicate]
  cases b <;> rfl

theorem Chan.sound_reset (κ : Config) : (Chan.reset κ.fftN).Sound κ 0 where
  slot := rfl
  popBuf := rfl
  db := rfl
  pbuf := rfl
  roll := List.length_replicate
  finite t b := by rw [Chan.bank_reset, allFinite_ident]
  buffers := by simp [Chan.buffersDistinct, Chan.reset]
  smpCnt := le_rfl
  popCnt := le_rfl

@[simp] theorem State.initial_chan (κ : Config) (c : Channel) : (State.initial κ).chan c = .reset κ.fftN := by
  cases c <;> rfl

theorem inv_initial {κ : Config} (h : LegalConfig κ) : Inv (State.initial κ) := by
  refine inv_iff.2 ⟨⟨h, Settings.legal_reset κ, allFinite_ident, Cfg.prefixes_reset, Cfg.prefixes_reset,
    Cfg.prefixes_reset, fun hp => absurd hp Bool.false_ne_true⟩, fun c => ?_⟩
  rw [State.initial_chan]
  exact Chan.sound_reset κ

/-! ### The events -/

theorem perform_config {e : Event} {s t : State} (h : perform e s = .next t) : t.config = s.config := by
  cases e with
  | command p cmd w =>
    obtain ⟨st, w, rfl⟩ | ⟨i, -, h⟩ := present_cases h
    exacts [rfl, exec_config h]
  | snp c =>
    rw [eq_of_next h]
    obtain ⟨-, hc⟩ | ⟨-, hc⟩ := snp_cases c s <;> rw [hc]
    rfl
  | _ => rw [eq_of_next h]; rfl

/-- Every event keeps the invariant. -/
theorem perform_inv {e : Event} {s t : State} (h : perform e s = .next t) (hs : Inv s) : Inv t := by
  cases e with
  | command p cmd w =>
    obtain ha | ⟨i, -, h⟩ := present_cases h
    exacts [ha.inv hs, exec_inv h hs]
  | synCreq => rw [eq_of_next h]; exact inv_iff.2 ⟨{ hs.sound with }, hs.chan⟩
  | synCack => rw [eq_of_next h]; exact inv_iff.2 ⟨{ hs.sound with }, hs.chan⟩
  | synSreq c => rw [eq_of_next h]; exact hs.setChan { hs.chan c with }
  | synSack c => rw [eq_of_next h]; exact hs.setChan { hs.chan c with }
  | snp c =>
    rw [eq_of_next h]
    obtain ⟨-, hc⟩ | ⟨-, hc⟩ := snp_cases c s <;> rw [hc]
    exacts [hs.setChan { hs.chan c with }, hs]
  | powerOn =>
    rw [eq_of_next h]
    have hi := inv_initial hs.config
    exact inv_iff.2 ⟨{ hi.sound with }, hi.chan⟩

/-- Settles O50: by the event taken, channel by channel. -/
theorem stepKeepsInvariant : Obligations.StepKeepsInvariant := by
  intro s t h
  obtain rfl | ⟨e, rest, -, h⟩ := step_cases h
  · exact ⟨rfl, id⟩
  · exact ⟨perform_config (s := s.accept rest) h, fun hs => perform_inv h (hs.accept rest)⟩

end Sys2Proof.Machine
end

section
/-! The lengths and ranges of what the analyzer reads and writes: written words, the transform, the columns. -/

namespace Sys2Proof.Machine

/-! ### Written words (R85) -/

theorem written_zero (m : Memory) (i : Nat) : Written m i 0 := fun _ hj => absurd hj (Nat.not_lt_zero _)

/-- A write never takes a written word away. -/
theorem Written.write {m : Memory} {i n : Nat} (h : Written m i n) (a : Nat) (w : Word) :
    Written (Memory.write m a w) i n := fun j hj => Memory.isSome_read_write a w (h j hj)

theorem Written.writeFrom {m : Memory} {i n : Nat} (h : Written m i n) (a : Nat) (ws : List Word) :
    Written (Memory.writeFrom m a ws) i n := by
  induction ws generalizing m a with
  | nil => exact h
  | cons w ws ih => exact ih (h.write a w) (a + 1)

/-- Writing the word after a written range makes the range longer. -/
theorem Written.write_succ {m : Memory} {i n : Nat} (h : Written m i n) (w : Word) :
    Written (Memory.write m (i + n) w) i (n + 1) := by
  intro j hj
  obtain hj | rfl := Nat.lt_succ_iff_lt_or_eq.1 hj
  · exact h.write _ _ j hj
  · simp

/-- A list of words written at an index is written there. -/
theorem written_writeFrom (m : Memory) (i : Nat) (ws : List Word) : Written (Memory.writeFrom m i ws) i ws.length := by
  intro j hj
  rw [Memory.read_writeFrom, if_pos ⟨Nat.le_add_right i j, Nat.add_lt_add_left hj i⟩]
  simpa using hj

/-- A single word of a written range. -/
theorem Written.read {m : Memory} {i n : Nat} (h : Written m i n) {j : Nat} (hj : j < n) :
    ∃ w, Memory.read m (i + j) = some w := Option.isSome_iff_exists.1 (h j hj)

/-! ### The transform (R290, R291) -/

/-- The butterflies of a group keep its length (R290). -/
theorem length_butterflies (ν : Word) {tw xs : List Cpx} (h : xs.length = 2 * tw.length) :
    (butterflies ν tw xs).length = 2 * tw.length := by
  simp only [butterflies, List.length_append, List.length_zipWith, List.length_take, List.length_drop]
  omega

/-- The groups of pass `p` cover the buffer: FFT_N / 2^p groups of 2^p values. -/
theorem groups_mul_size (κ : Config) {p : Nat} (hp : p ≤ κ.log2N) : κ.fftN / 2 ^ p * 2 ^ p = κ.fftN :=
  Nat.div_mul_cancel (pow_dvd_pow 2 hp)

theorem length_fftPass (κ : Config) (ν : Word) {xs : List Cpx} {p : Nat} (h1 : 1 ≤ p) (h2 : p ≤ κ.log2N)
    (hx : xs.length = κ.fftN) : (fftPass κ ν xs p).length = κ.fftN := by
  have hm : 2 * (2 ^ p / 2) = 2 ^ p := Nat.mul_div_cancel' (dvd_pow_self 2 (Nat.one_le_iff_ne_zero.1 h1))
  have hgroup : ∀ g ∈ List.range (κ.fftN / 2 ^ p),
      (butterflies ν ((List.range (2 ^ p / 2)).map fun j => twiddleAt κ (j * (κ.fftN / 2 ^ p)))
        ((xs.drop (g * 2 ^ p)).take (2 ^ p))).length = 2 ^ p := by
    intro g hg
    have hlen : (g + 1) * 2 ^ p ≤ xs.length := by
      rw [hx, ← groups_mul_size κ h2]
      exact Nat.mul_le_mul_right _ (List.mem_range.1 hg)
    rw [Nat.add_mul, one_mul] at hlen
    rw [length_butterflies] <;> simp only [List.length_map, List.length_range, hm, List.length_take, List.length_drop]
    omega
  rw [fftPass, List.length_flatMap, List.map_congr_left hgroup, List.map_const', List.sum_replicate, List.length_range,
    smul_eq_mul, groups_mul_size κ h2]

/-- The default transform answers FFT_N values (R290). -/
theorem length_fft (κ : Config) (ν : Word) (u : List Word) : (fft κ ν u).length = κ.fftN := by
  have hfold : ∀ (ps : List Nat) (xs : List Cpx), (∀ p ∈ ps, 1 ≤ p ∧ p ≤ κ.log2N) → xs.length = κ.fftN →
      (ps.foldl (fftPass κ ν) xs).length = κ.fftN := by
    intro ps
    induction ps with
    | nil => exact fun xs _ hx => hx
    | cons p ps ih =>
      intro xs hp hx
      obtain ⟨h1, h2⟩ := hp p List.mem_cons_self
      exact ih _ (fun q hq => hp q (List.mem_cons_of_mem p hq)) (length_fftPass κ ν h1 h2 hx)
  refine hfold _ _ (fun p hp => ?_) (by simp)
  obtain ⟨q, hq, rfl⟩ := List.mem_map.1 hp
  exact ⟨Nat.le_add_left 1 q, List.mem_range.1 hq⟩

/-- Every configured transform answers FFT_N values (R17). -/
theorem length_transform (κ : Config) (ν : Word) (u : List Word) : (transform κ ν u).length = κ.fftN := by
  cases h : κ.fft with
  | standard => rw [transform_standard ν u h, length_fft]
  | other => rw [transform_other ν u h, List.length_map, List.length_range]

/-- XFORM computes one decibel value per bin (R285). -/
theorem length_spectrum (κ : Config) (ν floor : Word) (roll : List Word) :
    (spectrum κ ν floor roll).length = κ.nBin := by
  simp only [spectrum, List.length_map, List.length_take, length_transform]
  exact Nat.min_eq_left (Nat.div_le_self _ _)

/-- Decibel value `n` is that of output `n` of the transform (R292). -/
theorem getElem?_spectrum (κ : Config) (ν floor : Word) (roll : List Word) {n : Nat} (hn : n < κ.nBin) :
    ∃ x, (transform κ ν (List.zipWith (F32.fmul ν) roll κ.win))[n]? = some x
      ∧ (spectrum κ ν floor roll)[n]? = some (magDb κ ν floor x) := by
  have hlt : n < (transform κ ν (List.zipWith (F32.fmul ν) roll κ.win)).length := by
    rw [length_transform]
    exact hn.trans_le (Nat.div_le_self _ _)
  refine ⟨_, List.getElem?_eq_getElem hlt, ?_⟩
  simp only [spectrum, List.getElem?_map, List.getElem?_take, if_pos hn, List.getElem?_eq_getElem hlt, Option.map_some]

/-! ### The columns (R296, R299) -/

theorem LegalConfig.one_le_nBin {κ : Config} (h : LegalConfig κ) : 1 ≤ κ.nBin := by
  have h64 : 2 ^ 6 ≤ κ.fftN := Nat.pow_le_pow_right (by decide) h.fft_size.1
  exact (Nat.le_div_iff_mul_le (by decide)).2 (by omega)

/-- A legal sample rate is finite and positive (R9, R334). -/
theorem finitePositive_of_legalRate {κ : Config} (hκ : LegalConfig κ) {fs : Word} (h : legalRate κ fs = true) :
    finitePositive fs = true := by
  have hmin := hκ.rates.1
  simp only [legalRate, finitePositive, F32.fgt, F32.flt, F32.fle, Bool.and_eq_true, decide_eq_true_eq] at h hmin ⊢
  obtain ⟨⟨hf, ⟨⟨-, hn⟩, hle⟩⟩, -⟩ := h
  obtain ⟨-, ⟨hz, -⟩, hlt⟩ := hmin
  exact ⟨hf, ⟨hz, hn⟩, hlt.trans_le hle⟩

/-- The bins a column of a real display shows are bins (R296, P-COL-RANGE). -/
theorem colRange_lt {κ : Config} (hκ : LegalConfig κ) {x W : Nat} {fs : Word} (hW : 2 ≤ W)
    (hf : finitePositive fs = true) (hx : x < W) {lo hi : Nat} (h : colRange κ x W fs = some (lo, hi)) :
    lo < κ.nBin ∧ hi < κ.nBin := by
  have hn := hκ.one_le_nBin
  obtain hc | ⟨t, ht, hc⟩ := colRange_cases κ x hW hf
  · rw [hc] at h
    simp only [idealColumn] at h
    split at h
    · cases h
    · cases h
      exact ⟨by omega, by omega⟩
  · have hr := List.all_eq_true.1 ht x (List.mem_range.2 hx)
    rw [← hc x, h] at hr
    simp only [columnInRange, Bool.and_eq_true, decide_eq_true_eq] at hr
    obtain ⟨⟨⟨hlo, hhi⟩, -⟩, -⟩ := hr
    exact ⟨by omega, by omega⟩

/-- A column whose bins are written has a decibel value (R299). -/
theorem columnValue_isSome {db : Memory} {N : Nat} (hdb : Written db 0 N) (floor : Word) {r : Option (Nat × Nat)}
    (hr : ∀ lo hi, r = some (lo, hi) → lo < N ∧ hi < N) : ∃ d, columnValue db floor r = some d := by
  match r with
  | none => exact ⟨floor, rfl⟩
  | some (lo, hi) =>
    obtain ⟨hlo, hhi⟩ := hr lo hi rfl
    obtain ⟨ws, hws⟩ := Memory.readRange_isSome (m := db) (i := lo) (n := hi - lo + 1) fun j hj => by
      simpa using hdb (lo + j) (by omega)
    match ws, (Memory.readRange_eq_some hws).1 with
    | d :: ds, _ =>
      simp only [columnValue, hws]
      exact ⟨_, rfl⟩

/-- MAP computes one word per column when every column has a decibel value (R299). -/
theorem pathWords_isSome (κ : Config) (ν : Nat → Word) (db : Memory) (r : Settings) (fs : Word) {x n : Nat}
    (h : ∀ j, x ≤ j → j < x + n → ∃ d, columnValue db r.aFloor (colRange κ j r.dW.toNat fs) = some d) :
    ∃ ws, pathWords κ ν db r fs x n = some ws := by
  induction n generalizing x with
  | zero => exact ⟨[], rfl⟩
  | succ n ih =>
    obtain ⟨d, hd⟩ := h x le_rfl (by omega)
    obtain ⟨ws, hws⟩ := ih (x := x + 1) fun j hj hj' => h j (by omega) (by omega)
    simp only [pathWords, hd, hws]
    exact ⟨_, rfl⟩

/-- The words MAP computes, column by column (R299). -/
theorem pathWords_eq_some {κ : Config} {ν : Nat → Word} {db : Memory} {r : Settings} {fs : Word} {x n : Nat}
    {ws : List Word} (h : pathWords κ ν db r fs x n = some ws) :
    ws.length = n ∧ ∀ j, j < n → ∃ d, columnValue db r.aFloor (colRange κ (x + j) r.dW.toNat fs) = some d
      ∧ ws[j]? = some (yMap (fun i => ν (8 * (x + j) + i)) r d) := by
  induction n generalizing x ws with
  | zero =>
    cases h
    exact ⟨rfl, fun j hj => absurd hj (Nat.not_lt_zero j)⟩
  | succ n ih =>
    simp only [pathWords] at h
    split at h
    · rename_i d ws' hd hws
      cases h
      obtain ⟨hl, hr⟩ := ih hws
      refine ⟨by rw [List.length_cons, hl], fun j hj => ?_⟩
      cases j with
      | zero => exact ⟨d, hd, rfl⟩
      | succ j =>
        obtain ⟨d', hd', hw'⟩ := hr j (Nat.lt_of_succ_lt_succ hj)
        rw [show x + (j + 1) = x + 1 + j by omega]
        exact ⟨d', hd', hw'⟩
    · cases h

/-- MAP has a word for every column when the bins are valid (R299). -/
theorem pathWords_of_written {κ : Config} (hκ : LegalConfig κ) (ν : Nat → Word) {db : Memory} (r : Settings) {fs : Word}
    (hdb : Written db 0 κ.nBin) (hW : 2 ≤ r.dW.toNat) (hf : finitePositive fs = true) :
    ∃ ws, pathWords κ ν db r fs 0 r.dW.toNat = some ws :=
  pathWords_isSome κ ν db r fs fun j _ hj =>
    columnValue_isSome hdb r.aFloor fun _ _ h => colRange_lt hκ hW hf (by simpa using hj) h

end Sys2Proof.Machine
end

section
/-! No step reads an unwritten word: the flags and counters guard written words, and every step keeps them doing so. -/

namespace Sys2Proof.Machine

/-! ### The FIFO of a channel (R106) -/

/-- The ring of a legal configuration has at most 2^15 slots (R9). -/
theorem LegalConfig.fifoCap_bounds {κ : Config} (h : LegalConfig κ) : 1 ≤ κ.fifoCap ∧ κ.fifoCap ≤ 2 ^ 15 :=
  ⟨Nat.one_le_two_pow, Nat.pow_le_pow_right (by decide) h.fifo_size.2⟩

/-- The usable capacity fits in a word (R259). -/
theorem toNat_usableBlocks {κ : Config} (h : LegalConfig κ) : (usableBlocks κ).toNat = κ.fifoCap - 1 := by
  have hb := h.fifoCap_bounds
  rw [usableBlocks, BitVec.toNat_ofNat]
  exact Nat.mod_eq_of_lt (by omega)

/-- A channel whose indices stand and whose ring keeps its written words. -/
theorem Chan.fifoWritten_of_slot {κ : Config} {k k' : Chan} {blk : Nat} (h : k.fifoWritten κ blk)
    (hslot : ∀ i n, Written k.slot i n → Written k'.slot i n) (hrd : k'.rdIdx = k.rdIdx) (hsn : k'.wrSnap = k.wrSnap)
    (hwr : k'.wrIdx = k.wrIdx) (hpop : k'.popActive = k.popActive) : k'.fifoWritten κ blk := by
  unfold Chan.fifoWritten
  rw [hrd, hsn, hwr, hpop]
  exact h.imp (fun hall j hj => hslot _ _ (hall j hj))
    fun ⟨h1, h2, h3, hall⟩ => ⟨h1, h2, h3, fun n hn => hslot _ _ (hall n hn)⟩

/-- Publishing a block whose words are written: the ring stays written, also when the write index wraps (R13, R220). -/
theorem Chan.fifoWritten_publish {κ : Config} (hκ : LegalConfig κ) {k : Chan} {blk : Nat} (h : k.fifoWritten κ blk)
    (hblk : Written k.slot (slotIndex κ k.wrIdx 0) blk) :
    ({ k with wrIdx := k.wrIdx + 1#32 } : Chan).fifoWritten κ blk := by
  obtain hall | ⟨hrd, hsn, hpop, hall⟩ := h
  · exact .inl hall
  · have hall' : ∀ n, n < k.wrIdx.toNat + 1 → Written k.slot (n % κ.fifoCap * κ.blkMax) blk := fun n hn => by
      obtain hn | rfl := Nat.lt_succ_iff_lt_or_eq.1 hn
      exacts [hall n hn, hblk]
    have hcap := hκ.fifoCap_bounds.2
    by_cases hwrap : k.wrIdx.toNat + 1 < 2 ^ 32
    · have hsucc : (k.wrIdx + 1#32).toNat = k.wrIdx.toNat + 1 := by bv_omega
      refine .inr ⟨hrd, ?_, hpop, ?_⟩ <;> simp only [hsucc]
      exacts [Nat.le_succ_of_le hsn, hall']
    · refine .inl fun j hj => ?_
      have := hall' j (by omega)
      rwa [Nat.mod_eq_of_lt hj] at this

/-- A snapshot of the write index (R244). -/
theorem Chan.fifoWritten_snap {κ : Config} {k : Chan} {blk : Nat} (h : k.fifoWritten κ blk) :
    ({ k with wrSnap := k.wrIdx } : Chan).fifoWritten κ blk :=
  h.imp id fun ⟨hrd, hsn, hpop, hall⟩ => ⟨hrd.trans hsn, le_rfl, fun ha => (hpop ha).trans_le hsn, hall⟩

/-- Opening a pop when a block is unread (R251). -/
theorem Chan.fifoWritten_open {κ : Config} {k : Chan} {blk : Nat} (h : k.fifoWritten κ blk) (hu : k.unread ≠ 0#32) :
    ({ k with popActive := true } : Chan).fifoWritten κ blk :=
  h.imp id fun ⟨hrd, hsn, _, hall⟩ => ⟨hrd, hsn, fun _ => lt_of_le_of_ne hrd fun he => hu (by
    rw [Chan.unread, BitVec.eq_of_toNat_eq he, BitVec.sub_self]), hall⟩

/-- Skipping to the oldest intact block when too many are unread (R251, R253). -/
theorem Chan.fifoWritten_skip {κ : Config} (hκ : LegalConfig κ) {k : Chan} {blk : Nat} (h : k.fifoWritten κ blk)
    (hu : κ.fifoCap - 1 < k.unread.toNat) :
    ({ k with popActive := false, rdIdx := k.skipTarget κ } : Chan).fifoWritten κ blk := by
  refine h.imp id fun ⟨hrd, hsn, _, hall⟩ => ⟨?_, hsn, fun ha => absurd ha Bool.false_ne_true, hall⟩
  have hn := toNat_usableBlocks hκ
  simp only [Chan.skipTarget, Chan.unread] at hu ⊢
  bv_omega

/-- Validating the open pop (R253). -/
theorem Chan.fifoWritten_validate {κ : Config} {k : Chan} {blk : Nat} (h : k.fifoWritten κ blk)
    (ha : k.popActive = true) :
    ({ k with popActive := false, rdIdx := k.rdIdx + 1#32 } : Chan).fifoWritten κ blk := by
  refine h.imp id fun ⟨hrd, hsn, hpop, hall⟩ => ⟨?_, hsn, fun ha => absurd ha Bool.false_ne_true, hall⟩
  have := hpop ha
  simp only
  bv_omega

/-- The block of an open pop is written (R252). -/
theorem Chan.written_of_popActive {κ : Config} (hκ : LegalConfig κ) {k : Chan} {blk : Nat} (h : k.fifoWritten κ blk)
    (ha : k.popActive = true) : Written k.slot (slotIndex κ k.rdIdx 0) blk := by
  obtain hall | ⟨-, hsn, hpop, hall⟩ := h
  · exact hall _ (Nat.mod_lt _ hκ.fifoCap_bounds.1)
  · exact hall _ ((hpop ha).trans_le hsn)

/-- With every index 0 no block is published (R336). -/
theorem Chan.fifoWritten_of_zero {κ : Config} {k : Chan} {blk : Nat} (hrd : k.rdIdx = 0#32) (hsn : k.wrSnap = 0#32)
    (hwr : k.wrIdx = 0#32) (ha : k.popActive = false) : k.fifoWritten κ blk := by
  refine .inr ⟨?_, ?_, fun h => absurd (ha.symm.trans h) Bool.false_ne_true, fun n hn => ?_⟩
  · rw [hrd, hsn]
  · rw [hsn, hwr]
  · rw [hwr] at hn
    exact absurd hn (Nat.not_lt_zero n)

/-! ### The guards, channel by channel -/

/-- A block is open and goes to the FIFO (R58). -/
abbrev State.pushing (s : State) : Prop := s.inBlock = true ∧ s.pushEn = true

theorem Answered.guarded {s t : State} (ha : Answered s t) (h : Guarded s) : Guarded t := by
  obtain ⟨st, w, rfl⟩ := ha
  exact h

/-- Replacing one channel by a guarded one. -/
theorem Guarded.setChan {s : State} (h : Guarded s) {c : Channel} {k : Chan}
    (hk : k.guarded s.config s.rBlk.toNat s.pushing) : Guarded (s.setChan c k) := by
  intro d
  rw [State.chan_setChan]
  split
  exacts [hk, h d]

/-- A command that replaces one channel by a guarded one. -/
theorem Guarded.setChan_answered {s : State} (h : Guarded s) {c : Channel} {k : Chan} {st : Status} {w : Word}
    (hk : k.guarded s.config s.rBlk.toNat s.pushing) : Guarded ((s.setChan c k).answered st w) :=
  h.setChan hk

/-- The guards of a channel without a block open, a pop open or a flag set. -/
theorem Chan.guarded_resetRuntime {κ : Config} {k : Chan}
    (hp : ∀ b, Written k.pbuf (pathIndex b 0) (k.plen.get b).toNat) (n blk : Nat) (p : Prop) :
    (k.resetRuntime n).guarded κ blk p where
  fifo := fifoWritten_of_zero rfl rfl rfl rfl
  open_block _ := written_zero _ _
  open_pop ha := absurd ha Bool.false_ne_true
  popped hv := absurd hv Bool.false_ne_true
  bins hv := absurd hv Bool.false_ne_true
  paths := hp

/-- `reset_runtime()`, with any block size (R336). -/
theorem Guarded.resetRuntime {s : State} (h : Guarded s) (fs : Word) (blk : BitVec 16) (p : Bool) :
    Guarded ({ s with rFs := fs, rBlk := blk, prepared := p } : State).resetRuntime := by
  intro c
  rw [State.chan_resetRuntime]
  exact Chan.guarded_resetRuntime (h c).paths _ _ _

theorem guarded_initial (κ : Config) : Guarded (State.initial κ) := by
  intro c
  rw [State.initial_chan]
  refine Chan.guarded_resetRuntime (k := .reset κ.fftN) (fun b => ?_) κ.fftN _ _
  have hlen : (Chan.reset κ.fftN).plen.get b = 0#16 := vector_get_replicate 3 0#16 b
  rw [hlen]
  exact written_zero _ _

/-! ### The commands of each port -/

/-- A command of CTL that does not reset touches nothing the guards speak of. -/
theorem CtlFrame.guarded {s t : State} (ht : CtlFrame s t) (h : Guarded s) : Guarded t := by
  rw [ht.2]
  intro c
  cases c
  exacts [{ h .left with }, { h .right with }]

theorem exec_ctl_guarded {i : Instr} {s t : State} (hp : i.port? = some .ctl) (h : exec i s = .next t)
    (hg : Guarded s) : Guarded t := by
  by_cases hr : i = .reset
  · subst hr
    obtain h | ⟨-, rfl⟩ := execReset_cases h
    exacts [h.guarded hg, hg.resetRuntime s.rFs s.rBlk s.prepared]
  · by_cases hq : ∃ imm w, i = .prepare imm w
    · obtain ⟨imm, w, rfl⟩ := hq
      obtain h | ⟨-, -, -, rfl⟩ := execPrepare_cases h
      exacts [h.guarded hg, hg.resetRuntime w imm true]
    · exact (exec_ctlFrame hp hr (fun imm w hi => hq ⟨imm, w, hi⟩) h).guarded hg

/-- A sample pushed to the slot makes the written part of the open block longer (R216, R219). -/
theorem Chan.guarded_smp {κ : Config} {k : Chan} {blk : Nat} {b push : Bool}
    (h : k.guarded κ blk (b = true ∧ push = true)) (hn : k.smpCnt.toNat < 2 ^ 16 - 1)
    (z1 z2 : Vector Word 9) (v : Word) :
    ({ k with z1 := z1, z2 := z2, slot := k.tap κ push v, smpCnt := k.smpCnt + 1#16 } : Chan).guarded κ blk
      (b = true ∧ push = true) := by
  have htap : ∀ i n, Written k.slot i n → Written (k.tap κ push v) i n := fun i n hw => by
    unfold Chan.tap
    split
    exacts [hw.write _ _, hw]
  refine { h with fifo := Chan.fifoWritten_of_slot h.fifo htap rfl rfl rfl rfl, open_block := fun hb => ?_ }
  have hsucc : (k.smpCnt + 1#16).toNat = k.smpCnt.toNat + 1 := by bv_omega
  simp only [hsucc, Chan.tap, if_pos hb.2]
  exact (h.open_block hb).write_succ v

/-- BLKBEG opens a block with no word in it (R214). -/
theorem Guarded.blkbeg {s : State} (h : Guarded s) (st : Status) (w : Word) :
    Guarded (({ s.adopt with
      inBlock := true
      pushEn := s.adopt.cfgAct.anEn
      chans := s.adopt.chans.map fun k => { k with smpCnt := 0#16 } } : State).answered st w) := by
  have hc : ∀ c, (s.adopt.chan c).guarded s.adopt.config s.adopt.rBlk.toNat s.adopt.pushing := fun c => by
    obtain ⟨-, ha⟩ | ⟨-, ha⟩ := s.adopt_cases <;> rw [ha] <;> exact h c
  intro c
  rw [State.chan_answered, State.chan, Pair.get_map]
  exact { hc c with open_block := fun _ => written_zero _ _ }

/-- BLKEND publishes the block of both channels when it was pushed (R220). -/
theorem Guarded.blkend {s : State} (h : Guarded s) (hκ : LegalConfig s.config) (hb : s.inBlock = true)
    (hn : ∀ c, (s.chan c).smpCnt = s.rBlk) (st : Status) (w : Word) :
    Guarded (({ s with
      inBlock := false
      chans := if s.pushEn then s.chans.map fun k => { k with wrIdx := k.wrIdx + 1#32 } else s.chans } :
        State).answered st w) := by
  intro c
  rw [State.chan_answered, State.chan]
  cases hp : s.pushEn with
  | false => exact { h c with open_block := fun hb => absurd hb.1 Bool.false_ne_true }
  | true =>
    have hblk := (h c).open_block ⟨hb, hp⟩
    rw [hn c] at hblk
    rw [if_pos rfl, Pair.get_map]
    exact { h c with
      fifo := Chan.fifoWritten_publish hκ (h c).fifo hblk
      open_block := fun hb => absurd hb.1 Bool.false_ne_true }

/-- The commands of AUD: SMP writes the open block word by word, BLKEND publishes it. -/
theorem exec_aud_guarded {i : Instr} {s t : State} (hp : i.port? = some .aud) (h : exec i s = .next t) (hs : Inv s)
    (hg : Guarded s) : Guarded t := by
  cases i with
  | blkbeg =>
    obtain h | ⟨-, -, rfl⟩ := execBlkbeg_cases h
    exacts [h.guarded hg, hg.blkbeg _ _]
  | smp ch w =>
    obtain h | ⟨c, f, -, hb, -, rfl⟩ := execSmp_cases h
    · exact h.guarded hg
    · exact hg.setChan_answered (Chan.guarded_smp (hg c) (by omega) _ _ _)
  | blkend =>
    obtain h | ⟨hb, hn, rfl⟩ := execBlkend_cases h
    exacts [h.guarded hg, hg.blkend hs.config hb hn _ _]
  | _ => simp [Instr.port?] at hp

/-- A word popped makes the written part of the pop buffer longer (R252). -/
theorem Chan.guarded_frd {κ : Config} {k : Chan} {blk : Nat} {p : Prop} (h : k.guarded κ blk p)
    (ha : k.popActive = true) (hn : k.popCnt.toNat < 2 ^ 16 - 1) (w : Word) :
    ({ k with
      popBuf := Memory.write k.popBuf k.popCnt.toNat w, popCnt := k.popCnt + 1#16, snapPost := false } :
        Chan).guarded κ blk p := by
  refine { h with open_pop := fun _ => ?_, popped := fun hv => (h.popped hv).write _ _ }
  have hsucc : (k.popCnt + 1#16).toNat = k.popCnt.toNat + 1 := by bv_omega
  simp only [hsucc]
  simpa only [Nat.zero_add] using (h.open_pop ha).write_succ w

/-- The mapped words fill the back buffer up to its new length; the other two buffers keep theirs (R299). -/
theorem Chan.guarded_map {κ : Config} {k : Chan} {blk : Nat} {p : Prop} (h : k.guarded κ blk p) {n : BitVec 16}
    {ws : List Word} (hws : ws.length = n.toNat) :
    ({ k with
      pbuf := Memory.writeFrom k.pbuf (pathIndex k.pBack 0) ws, plen := k.plen.set k.pBack n, pathReady := true } :
        Chan).guarded κ blk p := by
  refine { h with paths := fun b => ?_ }
  simp only [vector_get_set]
  split
  · rename_i hb
    rw [hb, ← hws]
    exact written_writeFrom _ _ _
  · exact (h.paths b).writeFrom _ _

/-- The commands of ANA: what a flag or counter newly promises has just been written. -/
theorem exec_ana_guarded {i : Instr} {s t : State} (hp : i.port? = some .ana) (h : exec i s = .next t) (hs : Inv s)
    (hg : Guarded s) : Guarded t := by
  cases i with
  | fsnap ch =>
    obtain h | ⟨c, -, rfl⟩ := execFsnap_cases h
    exacts [h.guarded hg, hg.setChan_answered { hg c with }]
  | favail ch => exact (execFavail_cases h).guarded hg
  | fpopb ch =>
    obtain h | ⟨c, ha, hu, ⟨hov, rfl⟩ | ⟨-, rfl⟩⟩ := execFpopb_cases h
    · exact h.guarded hg
    · have hskip := Chan.fifoWritten_skip hs.config (hg c).fifo (by have := hs.config.fifoCap_bounds; omega)
      rw [← ha] at hskip
      exact hg.setChan_answered { hg c with fifo := hskip }
    · exact hg.setChan_answered { hg c with
        fifo := Chan.fifoWritten_open (hg c).fifo hu
        open_pop := fun _ => written_zero _ _
        popped := fun hv => absurd hv Bool.false_ne_true }
  | frd ch =>
    obtain h | ⟨c, w, ha, hb, rfl⟩ := execFrd_cases h
    exacts [h.guarded hg, hg.setChan_answered (Chan.guarded_frd (hg c) ha (by omega) w)]
  | fpope ch =>
    obtain h | ⟨c, ha, hn, ⟨-, rfl⟩ | ⟨hov, rfl⟩⟩ := execFpope_cases h
    · exact h.guarded hg
    · exact hg.setChan_answered { hg c with
        fifo := Chan.fifoWritten_validate (hg c).fifo ha
        open_pop := fun ha => absurd ha Bool.false_ne_true
        popped := fun _ => hn ▸ (hg c).open_pop ha }
    · exact hg.setChan_answered { hg c with
        fifo := Chan.fifoWritten_skip hs.config (hg c).fifo hov
        open_pop := fun ha => absurd ha Bool.false_ne_true
        popped := fun hv => absurd hv Bool.false_ne_true }
  | accum ch =>
    obtain h | ⟨c, block, -, -, rfl⟩ := execAccum_cases h
    exacts [h.guarded hg, hg.setChan_answered { hg c with popped := fun hv => absurd hv Bool.false_ne_true }]
  | xform ch =>
    obtain h | ⟨c, rfl⟩ := execXform_cases h
    · exact h.guarded hg
    · refine hg.setChan_answered { hg c with bins := fun _ => ?_ }
      have hw := written_writeFrom (s.chan c).db 0 (spectrum s.config (s.nan 0) s.settings.aFloor (s.chan c).roll)
      rwa [length_spectrum] at hw
  | rdbin ch imm => exact (execRdbin_cases h).guarded hg
  | map ch =>
    obtain h | ⟨c, ws, hws, rfl⟩ := execMap_cases h
    exacts [h.guarded hg, hg.setChan_answered (Chan.guarded_map (hg c) (pathWords_eq_some hws).1)]
  | publish ch =>
    obtain h | ⟨c, rfl⟩ := execPublish_cases h
    exacts [h.guarded hg, hg.setChan_answered { hg c with }]
  | _ => simp [Instr.port?] at hp

/-- Every command keeps the guards. -/
theorem exec_guarded {i : Instr} {s t : State} (h : exec i s = .next t) (hs : Inv s) (hg : Guarded s) : Guarded t := by
  match hp : i.port? with
  | none =>
    obtain rfl := eq_nop_of_port hp
    exact (execNop_cases h).guarded hg
  | some .ctl => exact exec_ctl_guarded hp h hg
  | some .aud => exact exec_aud_guarded hp h hs hg
  | some .ana => exact exec_ana_guarded hp h hs hg
  | some .ren =>
    rw [(exec_renFrame hp h).2]
    intro c
    cases c
    exacts [{ hg .left with }, { hg .right with }]

/-! ### Commands that answer -/

/-- The command answers a next state: it does not fault. -/
def Answers (r : Result) : Prop := ∃ t, r = .next t

theorem answers_done (s : State) : Answers (done s) := ⟨_, rfl⟩

theorem answers_doneWith (s : State) (w : Word) : Answers (doneWith s w) := ⟨_, rfl⟩

theorem answers_overrun (s : State) (w : Word) : Answers (overrun s w) := ⟨_, rfl⟩

theorem answers_require {cond : Bool} {st : Status} {s : State} {body : Result} (h : cond = true → Answers body) :
    Answers (require cond st s body) := by
  cases cond
  exacts [⟨_, rfl⟩, h rfl]

theorem answers_withChannel {ch : BitVec 4} {s : State} {body : Channel → Result} (h : ∀ c, Answers (body c)) :
    Answers (withChannel ch s body) := by
  unfold withChannel
  split
  exacts [⟨_, rfl⟩, h _]

theorem answers_withStage {idx : BitVec 4} {s : State} {body : Fin 9 → Result} (h : ∀ u, Answers (body u)) :
    Answers (withStage idx s body) := by
  unfold withStage
  split
  exacts [⟨_, rfl⟩, h _]

theorem answers_withPosition {idx : BitVec 4} {s : State} {body : Fin 3 → Result} (h : ∀ p, Answers (body p)) :
    Answers (withPosition idx s body) := by
  unfold withPosition
  split
  exacts [⟨_, rfl⟩, h _]

theorem answers_withCut {idx : BitVec 4} {s : State} {body : Cut → Result} (h : ∀ cut, Answers (body cut)) :
    Answers (withCut idx s body) := by
  unfold withCut
  split
  exacts [⟨_, rfl⟩, h _]

theorem answers_withCoefWord {n : Nat} {s : State} {body : Fin 5 → Result} (h : ∀ k, Answers (body k)) :
    Answers (withCoefWord n s body) := by
  unfold withCoefWord
  split
  exacts [⟨_, rfl⟩, h _]

theorem answers_withAnalyzer {s : State} {body : Result} (h : s.prepared = true → Answers body) :
    Answers (withAnalyzer s body) := answers_require fun hp => answers_require fun _ => h hp

theorem answers_withWord {m : MemoryName} {r : Option Word} {body : Word → Result} (hr : ∃ w, r = some w)
    (h : ∀ w, Answers (body w)) : Answers (withWord m r body) := by
  obtain ⟨w, rfl⟩ := hr
  exact h w

theorem answers_withWords {m : MemoryName} {r : Option (List Word)} {body : List Word → Result}
    (hr : ∃ ws, r = some ws) (h : ∀ ws, Answers (body ws)) : Answers (withWords m r body) := by
  obtain ⟨ws, rfl⟩ := hr
  exact h ws

theorem answers_ite {p : Prop} [Decidable p] {a b : Result} (ha : Answers a) (hb : Answers b) :
    Answers (if p then a else b) := by
  split
  exacts [ha, hb]

/-! ### The five commands that read a memory -/

theorem execFrd_answers {s : State} (hs : Inv s) (hg : Guarded s) (ch : BitVec 4) : Answers (execFrd ch s) :=
  answers_withChannel fun c => answers_require fun hb => by
    obtain ⟨ha, hn⟩ := Bool.and_eq_true_iff.1 hb
    exact answers_withWord ((Chan.written_of_popActive hs.config (hg c).fifo ha).read (of_decide_eq_true hn))
      fun _ => answers_doneWith _ _

theorem execAccum_answers {s : State} (hg : Guarded s) (ch : BitVec 4) : Answers (execAccum ch s) :=
  answers_withChannel fun c => answers_withAnalyzer fun _ => answers_require fun hv =>
    answers_withWords (Memory.readRange_isSome ((hg c).popped hv)) fun _ => answers_done _

theorem execRdbin_answers {s : State} (hs : Inv s) (hg : Guarded s) (ch : BitVec 4) (imm : BitVec 16) :
    Answers (execRdbin ch imm s) :=
  answers_withChannel fun c => answers_require fun hn => answers_require fun hv => by
    have hn : imm.toNat < s.config.nBin := by
      have := hs.config.one_le_nBin
      have := of_decide_eq_true hn
      omega
    have hw := ((hg c).bins hv).read hn
    rw [Nat.zero_add] at hw
    exact answers_withWord hw fun _ => answers_doneWith _ _

theorem execMap_answers {s : State} (hs : Inv s) (hg : Guarded s) (ch : BitVec 4) : Answers (execMap ch s) :=
  answers_withChannel fun c => answers_withAnalyzer fun hp => answers_require fun hv => by
    obtain ⟨-, -, -, -, -, -, -, hW, -⟩ := hs.settings
    have hf := finitePositive_of_legalRate hs.config (hs.prepared hp).1
    exact answers_withWords (pathWords_of_written hs.config s.nan s.settings ((hg c).bins hv) hW hf)
      fun _ => answers_done _

/-- Word `x` of a path buffer, counted from the buffer's first word (R74). -/
theorem pathIndex_zero_add (b : Fin 3) (x : Nat) : pathIndex b 0 + x = pathIndex b x := by
  simp only [pathIndex, Nat.add_zero]

theorem execPrd_answers {s : State} (hg : Guarded s) (ch : BitVec 4) (imm : BitVec 16) : Answers (execPrd ch imm s) :=
  answers_withChannel fun c => answers_require fun hn => answers_require fun hv => by
    have hn : imm.toNat < ((s.chan c).plen.get (s.chan c).pHeld).toNat := by simpa [hv] using hn
    have hw := ((hg c).paths _).read hn
    rw [pathIndex_zero_add] at hw
    exact answers_withWord hw fun _ => answers_doneWith _ _

/-- No command faults where the flags guard written words. -/
theorem exec_answers {s : State} (hs : Inv s) (hg : Guarded s) (i : Instr) : Answers (exec i s) := by
  cases i with
  | nop => exact answers_done _
  | prepare imm w =>
    exact answers_require fun _ => answers_require fun _ => answers_require fun _ => answers_done _
  | reset => exact answers_require fun _ => answers_done _
  | wrs idx w => exact answers_require fun _ => answers_require fun _ => answers_done _
  | rds idx => exact answers_doneWith _ _
  | wrc idx w => exact answers_withCoefWord fun _ => answers_require fun _ => answers_done _
  | rdc idx => exact answers_withCoefWord fun _ => answers_doneWith _ _
  | facpk => exact answers_require fun _ => answers_done _
  | faclc imm => exact answers_require fun _ => answers_require fun _ => answers_done _
  | fachc imm => exact answers_require fun _ => answers_require fun _ => answers_done _
  | setcoef ch idx =>
    exact answers_withChannel fun _ => answers_withStage fun _ => answers_require fun _ => answers_done _
  | cutcfg ch idx imm =>
    exact answers_withChannel fun _ => answers_withCut fun _ => answers_require fun _ => answers_done _
  | posbyp ch idx imm => exact answers_withChannel fun _ => answers_withPosition fun _ => answers_done _
  | anen imm => exact answers_done _
  | commit => exact answers_require fun _ => answers_done _
  | rdcoef ch idx imm =>
    exact answers_withChannel fun _ => answers_withStage fun _ => answers_withCoefWord fun _ => answers_doneWith _ _
  | rdcfg ch imm => exact answers_withChannel fun _ => answers_doneWith _ _
  | blkbeg => exact answers_require fun _ => answers_require fun _ => answers_done _
  | smp ch w =>
    exact answers_withChannel fun _ => answers_require fun _ => answers_require fun _ => answers_doneWith _ _
  | blkend => exact answers_require fun _ => answers_require fun _ => answers_done _
  | fsnap ch => exact answers_withChannel fun _ => answers_require fun _ => answers_done _
  | favail ch => exact answers_withChannel fun _ => answers_require fun _ => answers_doneWith _ _
  | fpopb ch =>
    exact answers_withChannel fun _ => answers_require fun _ => answers_require fun _ => answers_require fun _ =>
      answers_require fun _ => answers_require fun _ => answers_ite (answers_overrun _ _) (answers_doneWith _ _)
  | frd ch => exact execFrd_answers hs hg ch
  | fpope ch =>
    exact answers_withChannel fun _ => answers_require fun _ => answers_require fun _ =>
      answers_ite (answers_doneWith _ _) (answers_overrun _ _)
  | accum ch => exact execAccum_answers hg ch
  | xform ch =>
    exact answers_withChannel fun _ => answers_withAnalyzer fun _ => answers_require fun _ => answers_done _
  | rdbin ch imm => exact execRdbin_answers hs hg ch imm
  | map ch => exact execMap_answers hs hg ch
  | publish ch =>
    exact answers_withChannel fun _ => answers_withAnalyzer fun _ => answers_require fun _ => answers_done _
  | ptake ch => exact answers_withChannel fun _ => answers_require fun _ => answers_doneWith _ _
  | prd ch imm => exact execPrd_answers hg ch imm

/-! ### The events -/

theorem guarded_snp {s : State} (hg : Guarded s) (c : Channel) : Guarded (snp c s) := by
  obtain ⟨-, hc⟩ | ⟨-, hc⟩ := snp_cases c s <;> rw [hc]
  · exact hg.setChan { hg c with fifo := Chan.fifoWritten_snap (hg c).fifo }
  · exact hg

/-- Every event answers a next state with the guards kept. -/
theorem perform_guarded {s : State} (hs : Inv s) (hg : Guarded s) (e : Event) :
    ∃ t, perform e s = .next t ∧ Guarded t := by
  cases e with
  | command p cmd w =>
    match hd : decode p cmd w with
    | none => exact ⟨_, present_of_illegal s hd, hg⟩
    | some i =>
      obtain ⟨t, ht⟩ := exec_answers hs hg i
      exact ⟨t, (present_of_decode s hd).trans ht, exec_guarded ht hs hg⟩
  | synCreq => exact ⟨_, rfl, hg⟩
  | synCack => exact ⟨_, rfl, hg⟩
  | synSreq c => exact ⟨synSreq c s, rfl, hg.setChan { hg c with }⟩
  | synSack c => exact ⟨synSack c s, rfl, hg.setChan { hg c with }⟩
  | snp c => exact ⟨_, rfl, guarded_snp hg c⟩
  | powerOn => exact ⟨_, rfl, guarded_initial s.config⟩

/-- Settles O57: the commands that read a memory find what they read written, and every event keeps the guards. -/
theorem stepNeverFaults : Obligations.StepNeverFaults := by
  intro s hs hg
  match hi : s.inputs with
  | [] => exact ⟨s, by simp only [step, hi], hg⟩
  | e :: rest =>
    obtain ⟨t, ht, hgt⟩ := perform_guarded (hs.accept rest) hg e
    exact ⟨t, by simpa only [step, hi] using ht, hgt⟩

end Sys2Proof.Machine
end

section
/-! Stepping, power-on, PREPARE and MAP. -/

namespace Sys2Proof.Machine

/-! ### Stepping -/

theorem step_nil {s : State} (h : s.inputs = []) : step s = .next s := by simp only [step, h]

theorem step_cons {s : State} {e : Event} {rest : List Event} (h : s.inputs = e :: rest) :
    step s = perform e (s.accept rest) := by simp only [step, h]

/-- Settles O2: a step performs the event it takes. -/
theorem stepRunsDecodedCommand : Obligations.StepRunsDecodedCommand := by
  intro s
  refine ⟨step_nil, fun e rest he => ?_⟩
  rw [step_cons he]
  refine ⟨?_, ?_, ?_, ?_, fun c => ⟨?_, ?_, ?_, ?_⟩, ?_⟩
  · rintro p cmd w i rfl hd
    exact present_of_decode _ hd
  · rintro p cmd w rfl hd
    exact present_of_illegal _ hd
  · rintro rfl
    rfl
  · rintro rfl
    rfl
  · rintro rfl
    rfl
  · rintro rfl
    rfl
  · rintro rfl hk
    obtain ⟨-, hc⟩ | ⟨hk', -⟩ := snp_cases c (s.accept rest)
    exacts [congrArg Host.Outcome.next hc, absurd hk' hk]
  · rintro rfl hk
    obtain ⟨hk', -⟩ | ⟨-, hc⟩ := snp_cases c (s.accept rest)
    exacts [absurd hk hk', congrArg Host.Outcome.next hc]
  · rintro rfl
    rfl

/-! ### Power-on -/

theorem win_length : defaultConfig.win.length = 2048 := by decide +kernel

theorem tw_length : defaultConfig.tw.length = 1024 := by
  simp only [defaultConfig, List.length_map, List.length_range]

/-- The defaults of R9. -/
theorem defaultConfig_values :
    defaultConfig = { defaultConfig with
      log2N := 11, log2Cap := 5, wMax := 4096, fsMin := 0x45FA0000#32, fsMax := 0x493B8000#32, fft := .standard
      colRange := .ideal } := by simp only [defaultConfig]

/-- The memories hold no value at power-on (R84, log 10). -/
theorem peek_initial (κ : Config) (m : MemoryName) (c : Channel) (i : Nat) : (State.initial κ).peek m c i = none := by
  cases m <;> cases c <;> rfl

/-- A configuration record at power-on: bank 0 of every stage, every cut stage bypassed, no position bypassed (R84). -/
theorem Cfg.reset_values (c : Channel) :
    (∀ u, (Cfg.reset.chan c).sel.get u = false) ∧ (∀ cut i, ((Cfg.reset.chan c).cutByp cut).get i = true)
      ∧ ∀ p, (Cfg.reset.chan c).posByp.get p = false := by
  have hc : Cfg.reset.chan c = .reset := by cases c <;> rfl
  rw [hc]
  refine ⟨vector_get_replicate 9 false, fun cut i => ?_, vector_get_replicate 3 false⟩
  cases cut <;> exact vector_get_replicate 4 true i

/-- Settles O6: element by element. -/
theorem powerOnValues : Obligations.PowerOnValues := by
  refine ⟨⟨rfl, defaultConfig_values, win_length, tw_length⟩, fun κ => ?_⟩
  refine ⟨rfl, rfl, rfl, rfl, rfl, rfl, rfl, rfl, rfl, rfl, rfl, rfl, fun g hg => ?_, fun c => ?_⟩
  · have hg : g = Cfg.reset := by simpa [State.initial] using hg
    rw [hg]
    exact ⟨rfl, Cfg.reset_values⟩
  · simp only [State.initial_chan]
    have hz := vector_get_replicate 9 0#32
    exact ⟨Chan.bank_reset κ.fftN, fun u => ⟨hz u, hz u⟩, rfl, rfl, rfl, rfl, rfl, rfl, rfl, rfl, rfl, rfl, rfl, rfl,
      rfl, rfl, rfl, rfl, rfl, rfl, vector_get_replicate 3 0#16, rfl, rfl, rfl, fun m i => peek_initial κ m c i⟩

theorem legalConfig_default : LegalConfig defaultConfig where
  fft_size := by decide
  fifo_size := by decide
  width := by decide
  rates := by decide
  win := ⟨win_length, by decide +kernel⟩
  tw := ⟨tw_length, by decide +kernel⟩

/-- Settles O7: each invariant holds of the values at power-on. -/
theorem resetSatisfiesInvariants : Obligations.ResetSatisfiesInvariants := by
  refine ⟨legalConfig_default, rfl, fun κ hκ => ⟨inv_initial hκ, ?_, ?_, fun c => ?_, guarded_initial κ⟩⟩
  · intro _
    refine ⟨rfl, fun c => ?_⟩
    rw [State.initial_chan]
    exact ⟨rfl, rfl, rfl, rfl, rfl, rfl, rfl, rfl, rfl, rfl⟩
  · exact ⟨fun _ => ⟨rfl, rfl⟩, fun h => absurd rfl h, fun _ _ => rfl⟩
  · rw [State.initial_chan]
    exact ⟨fun _ => ⟨rfl, rfl⟩, fun h => absurd rfl h⟩

/-! ### PREPARE -/

theorem quiescent_of_closed {s : State} (hb : s.inBlock = false) (hl : s.chans.left.popActive = false)
    (hr : s.chans.right.popActive = false) : s.quiescent = true := by
  simp only [State.quiescent, hb, hl, hr, Bool.not_false, Bool.and_self]

/-- `reset_runtime()` gives the values of R336, whatever was changed before outside the runtime state. -/
theorem runtimeReset_resetRuntime (s : State) (fs : Word) (blk : BitVec 16) (p : Bool) (st : Status) (w : Word) :
    RuntimeReset s (({ s with rFs := fs, rBlk := blk, prepared := p } : State).resetRuntime.answered st w) := by
  refine ⟨rfl, rfl, rfl, rfl, rfl, rfl, rfl, fun c => ?_⟩
  rw [State.chan_answered, State.chan_resetRuntime]
  exact ⟨fun u => ⟨vector_get_replicate 9 0#32 u, vector_get_replicate 9 0#32 u⟩, rfl, rfl⟩

/-- `reset_runtime()` keeps every word of every memory (R336). -/
theorem sameMemory_resetRuntime (s : State) (fs : Word) (blk : BitVec 16) (p : Bool) (st : Status) (w : Word) :
    SameMemory s (({ s with rFs := fs, rBlk := blk, prepared := p } : State).resetRuntime.answered st w) :=
  .of_memory fun c m => by
    rw [State.memory_answered, State.memory_resetRuntime]
    cases m <;> rfl

/-- Settles O9: with every requirement of PREPARE met, the reset of the runtime state follows. -/
theorem prepareCompletes : Obligations.PrepareCompletes := by
  intro s imm w h1 h2 hb hl hr hf hmin hmax
  have hblk : (decide (1 ≤ imm.toNat) && decide (imm.toNat ≤ s.config.blkMax)) = true := by simp [h1, h2]
  have hrate : legalRate s.config w = true := by simp only [legalRate, hf, hmin, hmax, Bool.and_self]
  refine ⟨({ s with rFs := w, rBlk := imm, prepared := true } : State).resetRuntime.answered .ok 0#32, ?_,
    runtimeReset_resetRuntime s w imm true _ _, sameMemory_resetRuntime s w imm true _ _, rfl⟩
  change execPrepare imm w s = _
  rw [execPrepare, hblk, quiescent_of_closed hb hl hr, hrate]
  rfl

/-! ### MAP -/

@[simp] theorem channelOf_code (c : Channel) : channelOf c.code = some c := by cases c <;> rfl

theorem withChannel_code (c : Channel) (s : State) (body : Channel → Result) :
    withChannel c.code s body = body c := by simp only [withChannel, channelOf_code]

theorem require_of {cond : Bool} (h : cond = true) (st : Status) (s : State) (body : Result) :
    require cond st s body = body := by rw [h, require_true]

theorem withAnalyzer_on {s : State} (hp : s.prepared = true) (ha : s.settings.sAnen = 1#1) (body : Result) :
    withAnalyzer s body = body := by
  rw [withAnalyzer, hp, require_true, State.analyzerOn, ha]
  rfl

/-- Words outside the ones written from `i` on stay. -/
theorem Memory.read_writeFrom_outside (m : Memory) {i : Nat} {ws : List Word} {j : Nat}
    (h : ¬(i ≤ j ∧ j < i + ws.length)) : Memory.read (Memory.writeFrom m i ws) j = Memory.read m j := by
  rw [Memory.read_writeFrom, if_neg h]

/-- Word `j` of the words written from `i` on. -/
theorem Memory.read_writeFrom_inside (m : Memory) (i : Nat) {ws : List Word} {j : Nat} (h : j < ws.length) :
    Memory.read (Memory.writeFrom m i ws) (i + j) = ws[j]? := by
  rw [Memory.read_writeFrom, if_pos ⟨Nat.le_add_right i j, Nat.add_lt_add_left h i⟩, Nat.add_sub_cancel_left]

/-- The state MAP leaves for the path words `ws` (R299). -/
def State.mapped (s : State) (c : Channel) (ws : List Word) : State :=
  (s.setChan c { s.chan c with
    pbuf := Memory.writeFrom (s.chan c).pbuf (pathIndex (s.chan c).pBack 0) ws
    plen := (s.chan c).plen.set (s.chan c).pBack s.settings.dW
    pathReady := true }).answered .ok 0#32

theorem State.mapped_chan (s : State) (c : Channel) (ws : List Word) :
    (s.mapped c ws).chan c = { s.chan c with
      pbuf := Memory.writeFrom (s.chan c).pbuf (pathIndex (s.chan c).pBack 0) ws
      plen := (s.chan c).plen.set (s.chan c).pBack s.settings.dW
      pathReady := true } := by
  rw [State.mapped, State.chan_answered, State.chan_setChan_self]

theorem State.mapped_chan_ne (s : State) {c d : Channel} (ws : List Word) (h : d ≠ c) :
    (s.mapped c ws).chan d = s.chan d := by
  rw [State.mapped, State.chan_answered, State.chan_setChan_ne _ _ h]

theorem State.mapped_eq (s : State) (c : Channel) (ws : List Word) :
    s.mapped c ws = { s with
      answer := some ⟨.ok, 0#32⟩
      chans := s.chans.set c { s.chan c with
        pbuf := ((s.mapped c ws).chan c).pbuf, plen := ((s.mapped c ws).chan c).plen, pathReady := true } } := by
  rw [State.mapped_chan]
  rfl

/-- MAP stores the path words of the columns. -/
theorem execMap_next {s : State} {c : Channel} {ws : List Word} (hp : s.prepared = true) (ha : s.settings.sAnen = 1#1)
    (hv : (s.chan c).dbValid = true)
    (hws : pathWords s.config s.nan (s.chan c).db s.settings s.rFs 0 s.settings.dW.toNat = some ws) :
    execMap c.code s = .next (s.mapped c ws) := by
  simp only [execMap, withChannel_code, withAnalyzer_on hp ha, require_of hv, hws, withWords_some]
  rfl

/-- MAP writes the back buffer's first words and nothing else (R299). -/
theorem State.sameMemoryBut_mapped (s : State) (c : Channel) (ws : List Word) :
    SameMemoryBut s (s.mapped c ws) .pbuf c fun i =>
      pathIndex (s.chan c).pBack 0 ≤ i ∧ i < pathIndex (s.chan c).pBack ws.length := by
  intro m d i hi
  by_cases hd : d = c
  · subst hd
    cases m with
    | pbuf =>
      simp only [State.peek, State.memory, State.mapped_chan]
      refine Memory.read_writeFrom_outside _ fun h => hi ⟨rfl, rfl, ?_⟩
      rwa [pathIndex_zero_add] at h
    | slot => simp only [State.peek, State.memory, State.mapped_chan]
    | popBuf => simp only [State.peek, State.memory, State.mapped_chan]
    | db => simp only [State.peek, State.memory, State.mapped_chan]
  · cases m <;> simp only [State.peek, State.memory, State.mapped_chan_ne s ws hd]

/-- Settles O41: a legal configuration and valid bins give every column a value, and MAP stores their coordinates. -/
theorem mapCompletes : Obligations.MapCompletes := by
  intro s c k W hp ha hv hκ hdb hW hf hpos
  have hfs : finitePositive s.rFs = true := Bool.and_eq_true_iff.2 ⟨hf, hpos⟩
  obtain ⟨ws, hws⟩ := pathWords_of_written hκ s.nan s.settings hdb hW hfs
  obtain ⟨hlen, hword⟩ := pathWords_eq_some hws
  refine ⟨s.mapped c ws, execMap_next hp ha hv hws, s.mapped_eq c ws, fun b => ?_, fun x hx => ?_, ?_⟩
  · simp only [State.mapped_chan, vector_get_set]
    rfl
  · obtain ⟨d, hd, hy⟩ := hword x hx
    rw [Nat.zero_add] at hd hy
    refine ⟨d, hd, ?_⟩
    rw [← hy, ← Memory.read_writeFrom_inside k.pbuf (pathIndex k.pBack 0) (hx.trans_eq hlen.symm), pathIndex_zero_add]
    simp only [State.peek, State.memory, State.mapped_chan]
    rfl
  · have hm := s.sameMemoryBut_mapped c ws
    rwa [hlen] at hm

end Sys2Proof.Machine
end

section
/-! The words of the arithmetic: sign and magnitude, the classes of R14, the order of the values. -/

namespace Sys2Proof.Machine.F32

open Reference

/-! ### Sign and magnitude -/

theorem sign_eq_decide (w : Word) : sign w = decide (2 ^ 31 ≤ w.toNat) := by
  rw [sign, BitVec.msb_eq_decide]

theorem toNat_pack {neg : Bool} {m : Nat} (h : m < 2 ^ 31) :
    (pack neg m).toNat = if neg then 2 ^ 31 + m else m := by
  rw [pack, BitVec.toNat_ofNat]
  cases neg <;> simp only [if_true, if_false, Bool.false_eq_true] <;> omega

theorem sign_pack {neg : Bool} {m : Nat} (h : m < 2 ^ 31) : sign (pack neg m) = neg := by
  rw [sign_eq_decide, toNat_pack h]
  cases neg
  · simpa using h
  · simp

theorem mag_pack {neg : Bool} {m : Nat} (h : m < 2 ^ 31) : mag (pack neg m) = m := by
  rw [mag, toNat_pack h]
  cases neg <;> simp only [if_true, if_false, Bool.false_eq_true] <;> omega

/-- A word is its sign and its magnitude. -/
theorem eq_of_sign_mag {a b : Word} (hs : sign a = sign b) (hm : mag a = mag b) : a = b := by
  rw [sign_eq_decide, sign_eq_decide, decide_eq_decide] at hs
  have ha := a.isLt
  have hb := b.isLt
  simp only [mag] at hm
  exact BitVec.eq_of_toNat_eq (by omega)

@[simp] theorem sign_fneg (w : Word) : sign (fneg w) = !sign w := by
  rw [fneg, sign, sign, BitVec.msb_xor, show (0x80000000#32).msb = true from rfl, Bool.xor_true]

@[simp] theorem mag_fneg (w : Word) : mag (fneg w) = mag w := by
  rw [fneg, mag, mag, BitVec.toNat_xor, Nat.xor_mod_two_pow]
  exact Nat.xor_zero _

/-! ### Classes -/

@[simp] theorem isNaN_fneg (w : Word) : isNaN (fneg w) = isNaN w := by rw [isNaN, isNaN, mag_fneg]

@[simp] theorem isInf_fneg (w : Word) : isInf (fneg w) = isInf w := by rw [isInf, isInf, mag_fneg]

@[simp] theorem isFinite_fneg (w : Word) : isFinite (fneg w) = isFinite w := by rw [isFinite, isFinite, mag_fneg]

/-- The draw of a NaN result is a NaN whatever the draw (R16). -/
@[simp] theorem isNaN_asNaN (ν : Word) : isNaN (asNaN ν) = true := by
  unfold asNaN
  split
  · assumption
  · rw [isNaN, decide_eq_true_eq, mag, BitVec.toNat_or, Nat.or_mod_two_pow]
    exact lt_of_lt_of_le (by decide) Nat.right_le_or

theorem isNaN_of_isFinite {w : Word} (h : isFinite w = true) : isNaN w = false := by
  simp only [isFinite, isNaN, decide_eq_true_eq, decide_eq_false_iff_not] at h ⊢
  omega

theorem isInf_of_isFinite {w : Word} (h : isFinite w = true) : isInf w = false := by
  simp only [isFinite, isInf, decide_eq_true_eq, beq_eq_false_iff_ne] at h ⊢
  omega

theorem isNaN_of_isInf {w : Word} (h : isInf w = true) : isNaN w = false := by
  simp only [isInf, isNaN, beq_iff_eq, decide_eq_false_iff_not] at h ⊢
  omega

theorem isFinite_of_isZero {w : Word} (h : isZero w = true) : isFinite w = true := by
  simp only [isZero, isFinite, beq_iff_eq, decide_eq_true_eq] at h ⊢
  rw [h]
  decide

theorem isZero_of_isInf {w : Word} (h : isInf w = true) : isZero w = false := by
  simp only [isInf, isZero, beq_iff_eq, beq_eq_false_iff_ne] at h ⊢
  rw [h]
  decide

/-- A word that is no NaN and no infinity is finite. -/
theorem isFinite_of_not {w : Word} (hn : isNaN w = false) (hi : isInf w = false) : isFinite w = true := by
  simp only [isNaN, isInf, isFinite, decide_eq_false_iff_not, beq_eq_false_iff_ne, decide_eq_true_eq] at hn hi ⊢
  omega

@[simp] theorem isInf_pack_infBits (s : Bool) : isInf (pack s infBits) = true := by
  rw [isInf, mag_pack (by decide), beq_self_eq_true]

@[simp] theorem sign_pack_infBits (s : Bool) : sign (pack s infBits) = s := sign_pack (by decide)

@[simp] theorem isZero_pack_zero (s : Bool) : isZero (pack s 0) = true := by
  rw [isZero, mag_pack (by decide), beq_self_eq_true]

@[simp] theorem sign_pack_zero (s : Bool) : sign (pack s 0) = s := sign_pack (by decide)

/-! ### The order of the values -/

/-- The absolute value of a word of magnitude `m`, in units of 2^-149 (R14). -/
def magUnits (m : Nat) : Nat := if m / 2 ^ 23 = 0 then m % 2 ^ 23 else (2 ^ 23 + m % 2 ^ 23) * 2 ^ (m / 2 ^ 23 - 1)

theorem units_eq (w : Word) : units w = magUnits (mag w) := rfl

/-- Magnitude `k · 2^23 + f` is `f · 2^k` units, for a significand `f` of up to 24 bits with its leading bit set, or
any subnormal one. -/
theorem magUnits_eq {k f : Nat} (hlo : k = 0 ∨ 2 ^ 23 ≤ f) (hhi : f ≤ 2 ^ 24) :
    magUnits (k * 2 ^ 23 + f) = f * 2 ^ k := by
  unfold magUnits
  by_cases hsub : f < 2 ^ 23
  · obtain rfl : k = 0 := by omega
    rw [if_pos (by omega)]
    omega
  · by_cases htop : f = 2 ^ 24
    · subst htop
      rw [if_neg (by omega), show (k * 2 ^ 23 + 2 ^ 24) / 2 ^ 23 - 1 = k + 1 by omega,
        show (k * 2 ^ 23 + 2 ^ 24) % 2 ^ 23 = 0 by omega, pow_succ]
      ring
    · rw [if_neg (by omega), show (k * 2 ^ 23 + f) / 2 ^ 23 - 1 = k by omega,
        show 2 ^ 23 + (k * 2 ^ 23 + f) % 2 ^ 23 = f by omega]

/-- Every magnitude is a significand below 2^24 at an exponent. -/
theorem exists_significand (m : Nat) : ∃ k f, m = k * 2 ^ 23 + f ∧ (k = 0 ∨ 2 ^ 23 ≤ f) ∧ f < 2 ^ 24 := by
  by_cases h : m < 2 ^ 23
  · exact ⟨0, m, by omega, .inl rfl, by omega⟩
  · exact ⟨m / 2 ^ 23 - 1, 2 ^ 23 + m % 2 ^ 23, by omega, .inr (by omega), by omega⟩

theorem magUnits_strictMono : StrictMono magUnits := by
  refine strictMono_nat_of_lt_succ fun m => ?_
  obtain ⟨k, f, rfl, hlo, hhi⟩ := exists_significand m
  rw [add_assoc, magUnits_eq hlo hhi.le, magUnits_eq (by omega) (by omega)]
  exact Nat.mul_lt_mul_of_pos_right (Nat.lt_succ_self f) (by positivity)

theorem magUnits_eq_zero {m : Nat} : magUnits m = 0 ↔ m = 0 :=
  magUnits_strictMono.injective.eq_iff' rfl

theorem units_eq_zero {w : Word} : units w = 0 ↔ isZero w = true := by
  rw [units_eq, magUnits_eq_zero, isZero, beq_iff_eq]

/-- The order of the units is the order of the keys (R15). -/
theorem signedUnits_lt_iff (a b : Word) : signedUnits a < signedUnits b ↔ key a < key b := by
  have hlt := magUnits_strictMono.lt_iff_lt (a := mag a) (b := mag b)
  have hgt := magUnits_strictMono.lt_iff_lt (a := mag b) (b := mag a)
  have ha := magUnits_eq_zero (m := mag a)
  have hb := magUnits_eq_zero (m := mag b)
  simp only [signedUnits, key, units_eq]
  cases sign a <;> cases sign b <;> simp only [if_true, if_false, Bool.false_eq_true] <;> omega

theorem value_lt_iff (a b : Word) : value a < value b ↔ key a < key b := by
  rw [value, value, div_lt_div_iff_of_pos_right (by positivity), Int.cast_lt, signedUnits_lt_iff]

theorem value_le_iff (a b : Word) : value a ≤ value b ↔ key a ≤ key b := by
  rw [← not_lt, value_lt_iff, not_lt]

theorem value_eq_iff (a b : Word) : value a = value b ↔ key a = key b := by
  rw [le_antisymm_iff, value_le_iff, value_le_iff, le_antisymm_iff]

/-- The comparisons of words other than NaN are those of their keys (R15). -/
theorem flt_iff {a b : Word} (ha : isNaN a = false) (hb : isNaN b = false) : flt a b = true ↔ key a < key b := by
  simp [flt, ha, hb]

theorem fle_iff {a b : Word} (ha : isNaN a = false) (hb : isNaN b = false) : fle a b = true ↔ key a ≤ key b := by
  simp [fle, ha, hb]

theorem fgt_iff {a b : Word} (ha : isNaN a = false) (hb : isNaN b = false) : fgt a b = true ↔ key b < key a :=
  flt_iff hb ha

theorem feq_iff {a b : Word} (ha : isNaN a = false) (hb : isNaN b = false) : feq a b = true ↔ key a = key b := by
  simp [feq, ha, hb]

/-- A word other than a zero is the only one of its key. -/
theorem key_eq_key_iff {a b : Word} (h : isZero a = false) : key b = key a ↔ b = a := by
  refine ⟨fun hk => ?_, fun hk => hk ▸ rfl⟩
  have hz : mag a ≠ 0 := by simpa [isZero] using h
  unfold key at hk
  refine eq_of_sign_mag ?_ ?_ <;> cases hsa : sign a <;> cases hsb : sign b <;>
    simp only [hsa, hsb, if_true, if_false, Bool.false_eq_true] at hk ⊢ <;> omega

/-- The key of an infinity. -/
theorem key_of_isInf {a : Word} (h : isInf a = true) :
    (sign a = true ∧ key a = -(infBits : Int)) ∨ (sign a = false ∧ key a = (infBits : Int)) := by
  have hm : mag a = infBits := by simpa [isInf] using h
  unfold key
  cases sign a <;> simp [hm]

/-- Every number is between the infinities. -/
theorem key_bounds {b : Word} (h : isNaN b = false) : -(infBits : Int) ≤ key b ∧ key b ≤ (infBits : Int) := by
  have hm : mag b ≤ infBits := by simpa [isNaN] using h
  unfold key
  split <;> omega

/-! ### The cases of R15 -/

section SpecialValues

variable {ν a b : Word}

theorem nan_operand (h : isNaN a = true ∨ isNaN b = true) :
    isNaN (fadd ν a b) = true ∧ isNaN (fsub ν a b) = true ∧ isNaN (fmul ν a b) = true ∧ isNaN (fdiv ν a b) = true
      ∧ flt a b = false ∧ fle a b = false ∧ fgt a b = false ∧ feq a b = false := by
  have hor : (isNaN a || isNaN b) = true := by simpa using h
  have hand : (!isNaN a && !isNaN b) = false := by rw [← Bool.not_or, hor]; rfl
  have hand' : (!isNaN b && !isNaN a) = false := by rw [Bool.and_comm, hand]
  simp only [fadd, fsub, fmul, fdiv, flt, fle, fgt, feq, isNaN_fneg, hor, hand, hand', if_true, isNaN_asNaN,
    Bool.false_and, and_self]

theorem fsqrt_nan (h : isNaN a = true) : isNaN (fsqrt ν a) = true := by
  simp only [fsqrt, h, if_true, isNaN_asNaN]

theorem fsqrt_negative (hz : isZero a = false) (hs : sign a = true) : isNaN (fsqrt ν a) = true := by
  simp only [fsqrt, hz, hs, if_true, Bool.false_eq_true, if_false, ite_self, isNaN_asNaN]

theorem fsqrt_inf (hi : isInf a = true) (hs : sign a = false) : fsqrt ν a = a := by
  simp only [fsqrt, isNaN_of_isInf hi, isZero_of_isInf hi, hs, hi, if_true, Bool.false_eq_true, if_false]

theorem inf_inf (ha : isInf a = true) (hb : isInf b = true) :
    (if sign a != sign b then isNaN (fadd ν a b) = true ∧ fsub ν a b = a
      else fadd ν a b = a ∧ isNaN (fsub ν a b) = true) ∧ isNaN (fdiv ν a b) = true := by
  simp only [fadd, fsub, fdiv, isNaN_fneg, isInf_fneg, sign_fneg, isNaN_of_isInf ha, isNaN_of_isInf hb, ha, hb,
    Bool.or_self, Bool.true_and, Bool.false_eq_true, if_true, if_false, isNaN_asNaN, and_true]
  cases sign a <;> cases sign b <;> simp

theorem inf_finite (ha : isInf a = true) (hb : isFinite b = true) :
    fadd ν a b = a ∧ fadd ν b a = a ∧ fsub ν a b = a ∧ isInf (fsub ν b a) = true ∧ sign (fsub ν b a) = !sign a
      ∧ isInf (fdiv ν a b) = true ∧ sign (fdiv ν a b) = (sign a != sign b)
      ∧ isZero (fdiv ν b a) = true ∧ sign (fdiv ν b a) = (sign a != sign b) := by
  simp only [fadd, fsub, fdiv, isNaN_fneg, isInf_fneg, sign_fneg, isNaN_of_isInf ha, isNaN_of_isFinite hb, ha,
    isInf_of_isFinite hb, Bool.or_self, Bool.false_and, Bool.false_eq_true, if_true, if_false, isInf_pack_infBits,
    sign_pack_infBits, isZero_pack_zero, sign_pack_zero, true_and]
  exact bne_comm

theorem inf_mul_zero (ha : isInf a = true) (hb : isZero b = true) :
    isNaN (fmul ν a b) = true ∧ isNaN (fmul ν b a) = true := by
  simp only [fmul, isNaN_of_isInf ha, isNaN_of_isFinite (isFinite_of_isZero hb), ha, hb, Bool.or_self, Bool.true_or,
    Bool.or_true, Bool.false_eq_true, if_true, if_false, isNaN_asNaN, and_self]

theorem inf_mul (ha : isInf a = true) (hn : isNaN b = false) (hz : isZero b = false) :
    isInf (fmul ν a b) = true ∧ sign (fmul ν a b) = (sign a != sign b) ∧ isInf (fmul ν b a) = true
      ∧ sign (fmul ν b a) = (sign a != sign b) := by
  simp only [fmul, isNaN_of_isInf ha, isZero_of_isInf ha, hn, hz, ha, Bool.or_self, Bool.true_or, Bool.or_true,
    Bool.false_eq_true, if_true, if_false, isInf_pack_infBits, sign_pack_infBits, true_and]
  exact bne_comm

theorem zero_div_zero (ha : isZero a = true) (hb : isZero b = true) : isNaN (fdiv ν a b) = true := by
  have hfa := isFinite_of_isZero ha
  have hfb := isFinite_of_isZero hb
  simp only [fdiv, isNaN_of_isFinite hfa, isNaN_of_isFinite hfb, isInf_of_isFinite hfa, isInf_of_isFinite hfb, ha, hb,
    Bool.or_self, Bool.false_eq_true, if_true, if_false, isNaN_asNaN]

theorem div_zero (hn : isNaN a = false) (hz : isZero a = false) (hb : isZero b = true) :
    isInf (fdiv ν a b) = true ∧ sign (fdiv ν a b) = (sign a != sign b) := by
  have hfb := isFinite_of_isZero hb
  simp only [fdiv, hn, isNaN_of_isFinite hfb, isInf_of_isFinite hfb, hz, hb, Bool.or_self, Bool.false_eq_true, if_true,
    if_false, ite_self, isInf_pack_infBits, sign_pack_infBits, and_self]

theorem compare_finite (ha : isFinite a = true) (hb : isFinite b = true) :
    (flt a b = true ↔ value a < value b) ∧ (fle a b = true ↔ value a ≤ value b)
      ∧ (fgt a b = true ↔ value b < value a) ∧ (feq a b = true ↔ value a = value b) := by
  have hna := isNaN_of_isFinite ha
  have hnb := isNaN_of_isFinite hb
  rw [flt_iff hna hnb, fle_iff hna hnb, fgt_iff hna hnb, feq_iff hna hnb, value_lt_iff, value_le_iff, value_lt_iff,
    value_eq_iff]
  exact ⟨.rfl, .rfl, .rfl, .rfl⟩

theorem compare_inf (ha : isInf a = true) (hb : isNaN b = false) :
    (flt a b = true ↔ sign a = true ∧ b ≠ a) ∧ (flt b a = true ↔ sign a = false ∧ b ≠ a)
      ∧ (fle a b = true ↔ sign a = true ∨ b = a) ∧ (fle b a = true ↔ sign a = false ∨ b = a)
      ∧ (fgt a b = true ↔ sign a = false ∧ b ≠ a) ∧ (fgt b a = true ↔ sign a = true ∧ b ≠ a)
      ∧ (feq a b = true ↔ b = a) ∧ (feq b a = true ↔ b = a) := by
  have hna := isNaN_of_isInf ha
  have hk := key_eq_key_iff (b := b) (isZero_of_isInf ha)
  obtain ⟨hlo, hhi⟩ := key_bounds hb
  rw [flt_iff hna hb, flt_iff hb hna, fle_iff hna hb, fle_iff hb hna, fgt_iff hna hb, fgt_iff hb hna, feq_iff hna hb,
    feq_iff hb hna, Ne, ← hk]
  obtain ⟨hs, hka⟩ | ⟨hs, hka⟩ := key_of_isInf ha <;>
    simp only [hs, hka, true_and, true_or, false_and, false_or, Bool.true_eq_false, Bool.false_eq_true,
      iff_true, iff_false, and_true] <;> omega

end SpecialValues

/-- Settles O60: case by case. -/
theorem specialValuesAndComparisons : Obligations.SpecialValuesAndComparisons := by
  intro ν a b
  exact ⟨nan_operand, fsqrt_nan, fsqrt_negative, fsqrt_inf, inf_inf, inf_finite, inf_mul_zero, inf_mul, zero_div_zero,
    div_zero, compare_finite, compare_inf⟩

end Sys2Proof.Machine.F32
end

section
/-! Correct rounding: the basic operations give the `F32` value nearest to the exact real result. -/

namespace Sys2Proof.Machine.F32

open Reference

/-! ### The rounded significand of a real number -/

/-- `m` at exponent `k` is the number `y` of units of 2^-149 rounded to 24 significant bits, ties to even: `2^k` units
is the last place of `y`. -/
structure Significand (y : ℝ) (k m : Nat) : Prop where
  lo : k = 0 ∨ (2 : ℝ) ^ (23 + k) ≤ y
  hi : y < 2 ^ (24 + k)
  near : |y - m * 2 ^ k| ≤ 2 ^ k / 2
  tie : |y - m * 2 ^ k| = 2 ^ k / 2 → m % 2 = 0

section Significand

variable {y : ℝ} {k m : Nat}

/-- No other multiple of the last place is nearer, and only from an even significand is one as near. -/
theorem Significand.le_multiple (h : Significand y k m) (w : Nat) :
    |y - m * 2 ^ k| ≤ |y - w * 2 ^ k| ∧ (|y - m * 2 ^ k| = |y - w * 2 ^ k| → w ≠ m → m % 2 = 0) := by
  obtain rfl | hwm := eq_or_ne w m
  · exact ⟨le_rfl, fun _ hne => absurd rfl hne⟩
  · have hone : (1 : ℝ) ≤ |(m : ℝ) - w| := by
      have hz : (1 : ℤ) ≤ |(m : ℤ) - w| := Int.one_le_abs (sub_ne_zero.2 (by exact_mod_cast hwm.symm))
      exact_mod_cast hz
    have hplace : (0 : ℝ) < 2 ^ k := by positivity
    have hgap : (2 : ℝ) ^ k ≤ |y - m * 2 ^ k| + |y - w * 2 ^ k| := by
      calc (2 : ℝ) ^ k ≤ |(m : ℝ) - w| * 2 ^ k := le_mul_of_one_le_left hplace.le hone
        _ = |(y - w * 2 ^ k) - (y - m * 2 ^ k)| := by
          rw [← abs_of_pos hplace, ← abs_mul, abs_of_pos hplace]
          ring_nf
        _ ≤ |y - w * 2 ^ k| + |y - m * 2 ^ k| := abs_sub _ _
        _ = _ := add_comm _ _
    have hnear := h.near
    exact ⟨by linarith, fun he _ => h.tie (by linarith)⟩

theorem Significand.le_top (h : Significand y k m) : m ≤ 2 ^ 24 := by
  have hplace : (0 : ℝ) < 2 ^ k := by positivity
  have hm := (abs_le.1 h.near).1
  have hy := h.hi
  rw [pow_add] at hy
  have hlt : (m : ℝ) < 2 ^ 24 + 1 := by
    refine lt_of_mul_lt_mul_right ?_ hplace.le
    linarith
  have hlt' : m < 2 ^ 24 + 1 := by exact_mod_cast hlt
  omega

theorem Significand.bottom_le (h : Significand y k m) : k = 0 ∨ 2 ^ 23 ≤ m := by
  refine h.lo.imp id fun hy => ?_
  have hplace : (0 : ℝ) < 2 ^ k := by positivity
  have hm := (abs_le.1 h.near).2
  rw [pow_add] at hy
  have hlt : (2 : ℝ) ^ 23 < m + 1 := by
    refine lt_of_mul_lt_mul_right ?_ hplace.le
    linarith
  have hlt' : 2 ^ 23 < m + 1 := by exact_mod_cast hlt
  omega

/-- The magnitude reaches that of infinity exactly from half a place above the largest finite value (R15). -/
theorem Significand.overflow_iff (h : Significand y k m) : infBits ≤ k * 2 ^ 23 + m ↔ (2 : ℝ) ^ 277 - 2 ^ 252 ≤ y := by
  have htop := h.le_top
  have hbot := h.bottom_le
  obtain ⟨hlow, hhigh⟩ := abs_le.1 h.near
  have hunit : (0 : ℝ) < 2 ^ 252 := by positivity
  have h277 : (2 : ℝ) ^ 277 = 2 ^ 25 * 2 ^ 252 := by rw [← pow_add]
  rw [h277]
  obtain hk | rfl | hk : k ≤ 252 ∨ k = 253 ∨ 254 ≤ k := by omega
  · have hy : y < 2 ^ 24 * 2 ^ 252 := by
      rw [← pow_add]
      exact h.hi.trans_le (pow_le_pow_right₀ one_le_two (by omega))
    refine iff_of_false (by simp only [infBits]; omega) (not_le.2 (hy.trans ?_))
    linarith
  · have h253 : (2 : ℝ) ^ 253 = 2 * 2 ^ 252 := by rw [← pow_succ']
    have hm : infBits ≤ 253 * 2 ^ 23 + m ↔ m = 2 ^ 24 := by simp only [infBits]; omega
    have htie := h.tie
    rw [h253] at hlow hhigh htie
    rw [hm]
    generalize (2 : ℝ) ^ 252 = E at *
    constructor
    · rintro rfl
      push_cast at hlow
      linarith
    · intro hy
      by_contra hne
      have hodd : m = 2 ^ 24 - 1 := by
        have hge : (2 : ℝ) ^ 24 - 1 ≤ m := by
          refine le_of_mul_le_mul_right ?_ hunit
          linarith
        have hge' : 2 ^ 24 ≤ m + 1 := by
          have : (2 : ℝ) ^ 24 ≤ m + 1 := by linarith
          exact_mod_cast this
        omega
      have hmr : (m : ℝ) = 2 ^ 24 - 1 := by
        rw [hodd, Nat.cast_sub (by decide), Nat.cast_pow, Nat.cast_ofNat, Nat.cast_one]
      have heven := htie (le_antisymm (abs_le.2 ⟨hlow, hhigh⟩) (le_trans ?_ (le_abs_self _)))
      · rw [hodd] at heven
        exact absurd heven (by decide)
      · rw [hmr]
        linarith
  · have hy : 2 ^ 25 * 2 ^ 252 ≤ y := by
      rw [← pow_add]
      exact le_trans (pow_le_pow_right₀ one_le_two (by omega)) (h.lo.resolve_left (by omega))
    refine iff_of_true (by simp only [infBits]; omega) (le_trans ?_ hy)
    linarith

/-- No magnitude is nearer than the rounded one, and only from an even one is another as near. -/
theorem Significand.le_magUnits (h : Significand y k m) (q : Nat) :
    |y - m * 2 ^ k| ≤ |y - magUnits q|
      ∧ (|y - m * 2 ^ k| = |y - magUnits q| → magUnits q ≠ m * 2 ^ k → m % 2 = 0) := by
  obtain ⟨j, f, rfl, hlo, hhi⟩ := exists_significand q
  rw [magUnits_eq hlo hhi.le]
  by_cases hjk : k ≤ j
  · have hmul : f * 2 ^ j = (f * 2 ^ (j - k)) * 2 ^ k := by rw [mul_assoc, ← pow_add, Nat.sub_add_cancel hjk]
    obtain ⟨hle, htie⟩ := h.le_multiple (f * 2 ^ (j - k))
    rw [hmul]
    push_cast at hle htie ⊢
    exact ⟨hle, fun he hne => htie he fun hm => hne (by rw [hm])⟩
  · have hy : (2 : ℝ) ^ (23 + k) ≤ y := h.lo.resolve_left (by omega)
    have hsmall : (f * 2 ^ j : ℝ) < 2 ^ (23 + k) := by
      have hf : f * 2 ^ j < 2 ^ (23 + k) := by
        calc f * 2 ^ j < 2 ^ 24 * 2 ^ j := Nat.mul_lt_mul_of_pos_right hhi (by positivity)
          _ = 2 ^ (24 + j) := (pow_add 2 24 j).symm
          _ ≤ 2 ^ (23 + k) := Nat.pow_le_pow_right (by decide) (by omega)
      exact_mod_cast hf
    have hle := (h.le_multiple (2 ^ 23)).1
    rw [Nat.cast_pow, Nat.cast_ofNat, ← pow_add, abs_of_nonneg (sub_nonneg.2 hy)] at hle
    push_cast
    have hlt : |y - m * 2 ^ k| < |y - f * 2 ^ j| := by
      rw [abs_of_pos (show (0 : ℝ) < y - f * 2 ^ j by linarith)]
      linarith
    exact ⟨hlt.le, fun he => absurd he hlt.ne⟩

/-! ### The rounded word -/

/-- A real number with a sign. -/
noncomputable def signed (s : Bool) (y : ℝ) : ℝ := if s then -y else y

theorem signed_mul (s s' : Bool) (x y : ℝ) : signed s x * signed s' y = signed (s != s') (x * y) := by
  cases s <;> cases s' <;> simp [signed]

theorem signed_div (s s' : Bool) (x y : ℝ) : signed s x / signed s' y = signed (s != s') (x / y) := by
  cases s <;> cases s' <;> simp [signed, neg_div, div_neg]

/-- A scale goes inside the sign. -/
theorem signed_mul_right (s : Bool) (x c : ℝ) : signed s x * c = signed s (x * c) := by
  cases s <;> simp [signed]

theorem signed_div_right (s : Bool) (x c : ℝ) : signed s x / c = signed s (x / c) := by
  rw [div_eq_mul_inv, signed_mul_right, ← div_eq_mul_inv]

theorem value_eq_signed (w : Word) : value w = signed (sign w) (units w) / 2 ^ 149 := by
  rw [value, signedUnits, signed]
  cases sign w <;> simp

/-- The distance of two numbers of known signs, in units. -/
theorem abs_value_sub (w : Word) (s : Bool) (y : ℝ) :
    |value w - signed s y / 2 ^ 149| = |signed (sign w) (units w) - signed s y| / 2 ^ 149 := by
  rw [value_eq_signed, ← sub_div, abs_div, abs_of_pos (show (0 : ℝ) < 2 ^ 149 by positivity)]

/-- With the same sign the distance is that of the magnitudes, otherwise it is their sum. -/
theorem abs_signed_sub (s s' : Bool) {u y : ℝ} (hu : 0 ≤ u) (hy : 0 ≤ y) :
    |signed s u - signed s' y| = if s = s' then |y - u| else y + u := by
  cases s <;> cases s' <;> simp only [signed, if_true, if_false, Bool.false_eq_true, reduceCtorEq]
  · exact abs_sub_comm _ _
  · rw [sub_neg_eq_add, abs_of_nonneg (by linarith), add_comm]
  · rw [abs_of_nonpos (by linarith)]
    ring
  · congr 1
    ring

/-- The word of a rounded significand, infinity when it overflows. -/
def roundedWord (s : Bool) (k m : Nat) : Word := pack s (min (k * 2 ^ 23 + m) infBits)

theorem mag_roundedWord (s : Bool) (k m : Nat) : mag (roundedWord s k m) = min (k * 2 ^ 23 + m) infBits :=
  mag_pack ((min_le_right _ _).trans_lt (by decide))

theorem sign_roundedWord (s : Bool) (k m : Nat) : sign (roundedWord s k m) = s :=
  sign_pack ((min_le_right _ _).trans_lt (by decide))

/-- A finite word is no nearer than the rounded one, and only from an even significand is another as near. -/
theorem Significand.le_word (h : Significand y k m) (hy : 0 ≤ y) (s : Bool) (v : Word) :
    |y - m * 2 ^ k| ≤ |signed (sign v) (units v) - signed s y|
      ∧ (|y - m * 2 ^ k| = |signed (sign v) (units v) - signed s y| →
        signed (sign v) (units v) ≠ signed s (m * 2 ^ k) → m % 2 = 0) := by
  have hu : (0 : ℝ) ≤ units v := Nat.cast_nonneg _
  rw [abs_signed_sub _ _ hu hy]
  by_cases hs : sign v = s
  · rw [if_pos hs, hs]
    obtain ⟨hle, htie⟩ := h.le_magUnits (mag v)
    refine ⟨hle, fun he hne => htie he fun hm => hne ?_⟩
    rw [units_eq, hm]
    push_cast
    rfl
  · rw [if_neg hs]
    obtain ⟨hle, htie⟩ := h.le_multiple 0
    rw [Nat.cast_zero, zero_mul, sub_zero, abs_of_nonneg hy] at hle htie
    refine ⟨by linarith, fun he _ => ?_⟩
    by_cases hm : m = 0
    · rw [hm]
    · exact htie (by linarith) (Ne.symm hm)

/-- The rounded word is the number rounded to nearest, ties to even, with overflow to infinity (R15). -/
theorem Significand.isRounded (h : Significand y k m) (hy : 0 ≤ y) (s : Bool) :
    IsRounded (signed s y / 2 ^ 149) (roundedWord s k m) := by
  have hover : overflowBound ≤ |signed s y / 2 ^ 149| ↔ infBits ≤ k * 2 ^ 23 + m := by
    rw [h.overflow_iff, abs_div, abs_of_pos (show (0 : ℝ) < 2 ^ 149 by positivity), le_div_iff₀ (by positivity),
      show |signed s y| = y by cases s <;> simp [signed, abs_of_nonneg hy], overflowBound, sub_mul, ← pow_add,
      ← pow_add]
  unfold IsRounded
  by_cases hinf : infBits ≤ k * 2 ^ 23 + m
  · have hpos : 0 < y := lt_of_lt_of_le (sub_pos.2 (pow_lt_pow_right₀ one_lt_two (by decide))) (h.overflow_iff.1 hinf)
    rw [if_pos (hover.2 hinf), isInf, mag_roundedWord, min_eq_right hinf, sign_roundedWord]
    refine ⟨beq_self_eq_true _, ?_⟩
    cases s
    · simpa [signed] using div_nonneg hy (by positivity)
    · simpa [signed, neg_div] using div_pos hpos (show (0 : ℝ) < 2 ^ 149 by positivity)
  · rw [if_neg (mt hover.1 hinf)]
    have hmag : mag (roundedWord s k m) = k * 2 ^ 23 + m := by
      rw [mag_roundedWord, min_eq_left (by omega)]
    have hunits : (units (roundedWord s k m) : ℝ) = m * 2 ^ k := by
      rw [units_eq, hmag, magUnits_eq h.bottom_le h.le_top]
      push_cast
      rfl
    have hdist : |signed s (m * 2 ^ k) - signed s y| = |y - m * 2 ^ k| := by
      rw [abs_signed_sub s s (by positivity) hy, if_pos rfl]
    refine ⟨by rw [isFinite, hmag, decide_eq_true_eq]; omega, fun v _ => ?_, fun v _ he hne => ?_⟩
    · rw [abs_value_sub, abs_value_sub, hunits, sign_roundedWord, hdist]
      exact div_le_div_of_nonneg_right (h.le_word hy s v).1 (by positivity)
    · rw [abs_value_sub, abs_value_sub, hunits, sign_roundedWord, hdist, div_left_inj' (by positivity)] at he
      have heven := (h.le_word hy s v).2 he.symm fun hv => hne (by
        rw [value_eq_signed, value_eq_signed, hunits, sign_roundedWord, hv])
      rw [hmag]
      omega

end Significand

/-! ### Rounding a quotient of integers -/

/-- `roundHalfEven` is within half of the quotient, and even where it is half away. -/
theorem roundHalfEven_near (n : Nat) {d : Nat} (hd : 0 < d) :
    |(n : ℝ) / d - roundHalfEven n d| ≤ 1 / 2
      ∧ (|(n : ℝ) / d - roundHalfEven n d| = 1 / 2 → roundHalfEven n d % 2 = 0) := by
  have hd' : (0 : ℝ) < d := by exact_mod_cast hd
  have hn : (n : ℝ) = d * (n / d : ℕ) + (n % d : ℕ) := by exact_mod_cast (Nat.div_add_mod n d).symm
  have hr : n % d < d := Nat.mod_lt n hd
  have hq : (n : ℝ) / d = (n / d : ℕ) + (n % d : ℕ) / d := by
    rw [hn, add_div, mul_div_cancel_left₀ _ hd'.ne']
  have hlow : (0 : ℝ) ≤ (n % d : ℕ) / d := by positivity
  simp only [roundHalfEven]
  generalize n % d = r at *
  generalize n / d = q at *
  split
  · rename_i h
    have hlt : (r : ℝ) / d < 1 / 2 := by
      rw [div_lt_iff₀ hd']
      have : (2 * r : ℝ) < d := by exact_mod_cast h
      linarith
    rw [hq, show (q : ℝ) + r / d - q = r / d by ring, abs_of_nonneg hlow]
    exact ⟨hlt.le, fun he => absurd he hlt.ne⟩
  · split
    · rename_i h
      have hgt : 1 / 2 < (r : ℝ) / d := by
        rw [lt_div_iff₀ hd']
        have : (d : ℝ) < 2 * r := by exact_mod_cast h
        linarith
      have hle : (r : ℝ) / d < 1 := (div_lt_one hd').2 (by exact_mod_cast hr)
      push_cast
      rw [hq, show (q : ℝ) + r / d - (q + 1) = r / d - 1 by ring, abs_of_neg (by linarith)]
      exact ⟨by linarith, fun he => by linarith⟩
    · have heq : (r : ℝ) / d = 1 / 2 := by
        rw [div_eq_div_iff hd'.ne' two_ne_zero]
        have : r * 2 = 1 * d := by omega
        exact_mod_cast this
      refine ⟨?_, fun _ => by omega⟩
      rw [hq, heq]
      obtain h2 | h2 := Nat.mod_two_eq_zero_or_one q <;> rw [h2] <;> push_cast <;> ring_nf <;> norm_num

/-- The exponent that `roundMag` rounds at: 24 significant bits of the integer part. -/
theorem log2_exponent (q : Nat) :
    (q.log2 - 23 = 0 ∨ 2 ^ (23 + (q.log2 - 23)) ≤ q) ∧ q + 1 ≤ 2 ^ (24 + (q.log2 - 23)) := by
  have hlt : q < 2 ^ (24 + (q.log2 - 23)) :=
    lt_of_lt_of_le Nat.lt_log2_self (Nat.pow_le_pow_right (by decide) (by omega))
  refine ⟨?_, hlt⟩
  by_cases h : q.log2 ≤ 23
  · exact .inl (by omega)
  · refine .inr ?_
    rw [show 23 + (q.log2 - 23) = q.log2 by omega]
    exact Nat.log2_self_le fun hz => h (by rw [hz]; decide)

/-- `roundMag` rounds the quotient (R14, R15). -/
theorem significand_div (n : Nat) {d : Nat} (hd : 0 < d) :
    Significand ((n : ℝ) / d) ((n / d).log2 - 23) (roundHalfEven n (d * 2 ^ ((n / d).log2 - 23))) := by
  obtain ⟨hlo, hhi⟩ := log2_exponent (n / d)
  have hd' : (0 : ℝ) < d := by exact_mod_cast hd
  have hfloor : ((n / d : ℕ) : ℝ) ≤ (n : ℝ) / d := Nat.cast_div_le
  have hceil : (n : ℝ) / d < (n / d : ℕ) + 1 := by
    rw [div_lt_iff₀ hd']
    exact_mod_cast (Nat.div_lt_iff_lt_mul hd).1 (Nat.lt_succ_self (n / d))
  generalize (n / d).log2 - 23 = k at *
  have hplace : (0 : ℝ) < 2 ^ k := by positivity
  obtain ⟨hnear, htie⟩ := roundHalfEven_near n (d := d * 2 ^ k) (by positivity)
  have hscale : |(n : ℝ) / d - roundHalfEven n (d * 2 ^ k) * 2 ^ k|
      = |(n : ℝ) / (d * 2 ^ k : ℕ) - roundHalfEven n (d * 2 ^ k)| * 2 ^ k := by
    rw [← abs_of_pos hplace, ← abs_mul, abs_of_pos hplace]
    congr 1
    push_cast
    field_simp
  refine ⟨hlo.imp id fun h => le_trans (by exact_mod_cast h) hfloor,
    hceil.trans_le (by exact_mod_cast hhi), ?_, fun he => htie ?_⟩
  · rw [hscale]
    have := mul_le_mul_of_nonneg_right hnear hplace.le
    linarith
  · rw [hscale] at he
    exact mul_right_cancel₀ hplace.ne' (he.trans (by ring))

theorem isRounded_roundMag (s : Bool) (n : Nat) {d : Nat} (hd : 0 < d) :
    IsRounded (signed s ((n : ℝ) / d) / 2 ^ 149) (pack s (roundMag n d)) :=
  (significand_div n hd).isRounded (by positivity) s

theorem sign_pack_roundMag (s : Bool) (n d : Nat) : sign (pack s (roundMag n d)) = s :=
  sign_pack ((min_le_right _ _).trans_lt (by decide))

/-! ### Sums, products and quotients -/

theorem value_fneg (w : Word) : value (fneg w) = -value w := by
  rw [value_eq_signed, value_eq_signed, units_eq, units_eq, mag_fneg, sign_fneg, ← neg_div]
  cases sign w <;> simp [signed]

section Operations

variable {a b : Word}

theorem fadd_of_finite (ν : Word) (ha : isFinite a = true) (hb : isFinite b = true) :
    fadd ν a b = if signedUnits a + signedUnits b = 0 then pack (sign a && sign b) 0
      else pack (decide (signedUnits a + signedUnits b < 0)) (roundMag (signedUnits a + signedUnits b).natAbs 1) := by
  simp only [fadd, isNaN_of_isFinite ha, isNaN_of_isFinite hb, isInf_of_isFinite ha, isInf_of_isFinite hb, Bool.or_self,
    Bool.false_eq_true, if_false]

theorem value_add_eq (a b : Word) : value a + value b = ((signedUnits a + signedUnits b : ℤ) : ℝ) / 2 ^ 149 := by
  rw [value, value, ← add_div, Int.cast_add]

theorem isRounded_zero (s : Bool) : IsRounded 0 (pack s 0) := by
  have h := isRounded_roundMag s 0 one_pos
  rwa [show roundMag 0 1 = 0 from rfl, show signed s (((0 : ℕ) : ℝ) / (1 : ℕ)) / 2 ^ 149 = 0 by
    cases s <;> simp [signed]] at h

/-- The sum is rounded once (R15). -/
theorem isRounded_fadd (ν : Word) (ha : isFinite a = true) (hb : isFinite b = true) :
    IsRounded (value a + value b) (fadd ν a b) := by
  rw [fadd_of_finite ν ha hb, value_add_eq]
  generalize signedUnits a + signedUnits b = n
  split
  · rename_i h
    rw [h, Int.cast_zero, zero_div]
    exact isRounded_zero _
  · have hn : ((n : ℤ) : ℝ) = signed (decide (n < 0)) ((n.natAbs : ℝ) / (1 : ℕ)) := by
      rw [Nat.cast_one, div_one, Nat.cast_natAbs, signed]
      split
      · rename_i h
        rw [abs_of_neg (of_decide_eq_true h), Int.cast_neg, neg_neg]
      · rename_i h
        rw [abs_of_nonneg (not_lt.1 (by simpa using h))]
    rw [hn]
    exact isRounded_roundMag _ _ one_pos

/-- An exact zero sum is -0.0 only for two negative zeros (R15). -/
theorem fadd_of_sum_zero (ν : Word) (ha : isFinite a = true) (hb : isFinite b = true) (h : value a + value b = 0) :
    fadd ν a b = if sign a && sign b then 0x80000000#32 else 0x00000000#32 := by
  have hz : signedUnits a + signedUnits b = 0 := by
    rw [value_add_eq, div_eq_zero_iff] at h
    exact_mod_cast h.resolve_right (by positivity)
  rw [fadd_of_finite ν ha hb, if_pos hz]
  cases sign a && sign b <;> rfl

theorem fmul_of_finite (ν : Word) (ha : isFinite a = true) (hb : isFinite b = true) :
    fmul ν a b = pack (sign a != sign b) (roundMag (units a * units b) (2 ^ 149)) := by
  simp only [fmul, isNaN_of_isFinite ha, isNaN_of_isFinite hb, isInf_of_isFinite ha, isInf_of_isFinite hb, Bool.or_self,
    Bool.false_eq_true, if_false]

/-- The product is rounded once (R15). -/
theorem isRounded_fmul (ν : Word) (ha : isFinite a = true) (hb : isFinite b = true) :
    IsRounded (value a * value b) (fmul ν a b) := by
  have hv : value a * value b
      = signed (sign a != sign b) (((units a * units b : ℕ) : ℝ) / ((2 ^ 149 : ℕ) : ℝ)) / 2 ^ 149 := by
    rw [value_eq_signed, value_eq_signed, div_mul_div_comm, signed_mul, ← div_div, signed_div_right,
      Nat.cast_mul, Nat.cast_pow, Nat.cast_ofNat]
  rw [fmul_of_finite ν ha hb, hv]
  exact isRounded_roundMag _ _ (by positivity)

theorem fdiv_of_finite (ν : Word) (ha : isFinite a = true) (hb : isFinite b = true) (hz : isZero b = false) :
    fdiv ν a b = pack (sign a != sign b) (roundMag (units a * 2 ^ 149) (units b)) := by
  simp only [fdiv, isNaN_of_isFinite ha, isNaN_of_isFinite hb, isInf_of_isFinite ha, isInf_of_isFinite hb, hz,
    Bool.or_self, Bool.false_eq_true, if_false]

theorem units_pos (hz : isZero b = false) : 0 < units b :=
  Nat.pos_of_ne_zero fun h => by rw [units_eq_zero, hz] at h; exact Bool.false_ne_true h

/-- The quotient is rounded once (R15). -/
theorem isRounded_fdiv (ν : Word) (ha : isFinite a = true) (hb : isFinite b = true) (hz : isZero b = false) :
    IsRounded (value a / value b) (fdiv ν a b) := by
  have hu : (units b : ℝ) ≠ 0 := by exact_mod_cast (units_pos hz).ne'
  have hv : value a / value b
      = signed (sign a != sign b) (((units a * 2 ^ 149 : ℕ) : ℝ) / (units b : ℝ)) / 2 ^ 149 := by
    rw [value_eq_signed, value_eq_signed, div_div_div_cancel_right₀ (by positivity), signed_div,
      eq_div_iff (by positivity), signed_mul_right, div_mul_eq_mul_div, Nat.cast_mul, Nat.cast_pow, Nat.cast_ofNat]
  rw [fdiv_of_finite ν ha hb hz, hv]
  exact isRounded_roundMag _ _ (units_pos hz)

end Operations

/-! ### The square root -/

/-- The bitwise square root keeps a lower and an upper bound of the root. -/
theorem isqrtFrom_bounds (n i : Nat) {r : Nat} (hlo : r * r ≤ n) (hhi : n < (r + 2 ^ i) * (r + 2 ^ i)) :
    isqrtFrom n i r * isqrtFrom n i r ≤ n ∧ n < (isqrtFrom n i r + 1) * (isqrtFrom n i r + 1) := by
  induction i generalizing r with
  | zero => exact ⟨hlo, hhi⟩
  | succ i ih =>
    simp only [isqrtFrom]
    split
    · rename_i h
      refine ih h ?_
      rwa [add_assoc, ← two_mul, ← pow_succ']
    · exact ih hlo (not_le.1 ‹_›)

/-- `isqrt` is the integer part of the root. -/
theorem isqrt_bounds (n : Nat) : isqrt n * isqrt n ≤ n ∧ n < (isqrt n + 1) * (isqrt n + 1) := by
  refine isqrtFrom_bounds n _ (Nat.zero_le _) ?_
  rw [zero_add, ← pow_add]
  exact lt_of_lt_of_le Nat.lt_log2_self (Nat.pow_le_pow_right (by decide) (by omega))

/-- Between two integers above 2^24 every number rounds alike, so that half a unit stands for any remainder. -/
theorem Significand.of_half {r k m : Nat} (h : Significand (r + 1 / 2) k m) (hk : k ≠ 0) {y : ℝ} (hlo : (r : ℝ) < y)
    (hhi : y < r + 1) : Significand y k m := by
  have hpow : (2 : ℝ) ^ k = 2 * 2 ^ (k - 1) := by rw [← pow_succ', Nat.sub_add_cancel (Nat.one_le_iff_ne_zero.2 hk)]
  obtain ⟨h1, h2⟩ := abs_le.1 h.near
  rw [hpow] at h1 h2
  have hbot : m * (2 * 2 ^ (k - 1)) < r + 1 + 2 ^ (k - 1) := by
    have : (m * (2 * 2 ^ (k - 1)) : ℝ) < r + 1 + 2 ^ (k - 1) := by linarith
    exact_mod_cast this
  have htop : r < m * (2 * 2 ^ (k - 1)) + 2 ^ (k - 1) := by
    have : (r : ℝ) < m * (2 * 2 ^ (k - 1)) + 2 ^ (k - 1) := by linarith
    exact_mod_cast this
  have hbot' : (m * (2 * 2 ^ (k - 1)) : ℝ) ≤ r + 2 ^ (k - 1) := by
    exact_mod_cast (show m * (2 * 2 ^ (k - 1)) ≤ r + 2 ^ (k - 1) by omega)
  have htop' : (r : ℝ) + 1 ≤ m * (2 * 2 ^ (k - 1)) + 2 ^ (k - 1) := by exact_mod_cast htop
  have hlt : |y - m * 2 ^ k| < 2 ^ k / 2 := by
    rw [hpow, abs_lt]
    constructor <;> linarith
  refine ⟨.inr ?_, ?_, hlt.le, fun he => absurd he hlt.ne⟩
  · have hle : (2 : ℝ) ^ (23 + k) < r + 1 := (h.lo.resolve_left hk).trans_lt (by linarith)
    have hle' : 2 ^ (23 + k) ≤ r := by
      have : 2 ^ (23 + k) < r + 1 := by exact_mod_cast hle
      omega
    exact le_trans (by exact_mod_cast hle') hlo.le
  · have hge : (r : ℝ) < 2 ^ (24 + k) := lt_trans (by linarith) h.hi
    have hge' : r + 1 ≤ 2 ^ (24 + k) := by
      have : r < 2 ^ (24 + k) := by exact_mod_cast hge
      omega
    exact hhi.trans_le (by exact_mod_cast hge')

/-- The root of a large integer, rounded from its integer part and a sticky half. -/
theorem significand_sqrt {n : Nat} (hn : 2 ^ 149 ≤ n) :
    ∃ k m, Significand (Real.sqrt n) k m
      ∧ roundMag (2 * isqrt n + (if isqrt n * isqrt n < n then 1 else 0)) 2 = min (k * 2 ^ 23 + m) infBits := by
  obtain ⟨hlo, hhi⟩ := isqrt_bounds n
  have hr : 2 ^ 74 ≤ isqrt n := by
    by_contra h
    have hmul : (isqrt n + 1) * (isqrt n + 1) ≤ 2 ^ 74 * 2 ^ 74 := Nat.mul_le_mul (by omega) (by omega)
    have : (2 : ℕ) ^ 74 * 2 ^ 74 < 2 ^ 149 := by norm_num
    omega
  generalize isqrt n = r at *
  refine ⟨_, _, ?_, rfl⟩
  have hround := significand_div (2 * r + if r * r < n then 1 else 0) two_pos
  by_cases hex : r * r < n
  · rw [if_pos hex] at hround ⊢
    rw [show (((2 * r + 1 : ℕ) : ℝ) / (2 : ℕ)) = r + 1 / 2 by push_cast; ring] at hround
    refine hround.of_half ?_ ?_ ?_
    · rw [show (2 * r + 1) / 2 = r by omega]
      have hlog : 74 ≤ r.log2 := (Nat.le_log2 (by omega)).2 hr
      omega
    · refine Real.lt_sqrt_of_sq_lt ?_
      rw [sq]
      exact_mod_cast hex
    · rw [Real.sqrt_lt' (by positivity), sq]
      exact_mod_cast hhi
  · have hsq : n = r * r := by omega
    rw [if_neg hex, add_zero] at hround ⊢
    rw [show (((2 * r : ℕ) : ℝ) / (2 : ℕ)) = r by push_cast; ring] at hround
    have hroot : Real.sqrt n = r := by
      rw [hsq, Nat.cast_mul, Real.sqrt_mul_self (Nat.cast_nonneg r)]
    rwa [hroot]

theorem fsqrt_of_zero (ν : Word) {a : Word} (hz : isZero a = true) : fsqrt ν a = a := by
  simp only [fsqrt, isNaN_of_isFinite (isFinite_of_isZero hz), hz, Bool.false_eq_true, if_false, if_true]

/-- A finite word that is not negative is a zero or has no sign. -/
theorem sign_of_value_nonneg {a : Word} (hz : isZero a = false) (h : 0 ≤ value a) : sign a = false := by
  by_contra hs
  rw [Bool.not_eq_false] at hs
  rw [value_eq_signed, hs, signed, if_pos rfl] at h
  have hu : (0 : ℝ) < units a := by exact_mod_cast units_pos hz
  have hneg : -(units a : ℝ) / 2 ^ 149 < 0 := div_neg_of_neg_of_pos (by linarith) (by positivity)
  linarith

theorem value_of_zero {a : Word} (hz : isZero a = true) : value a = 0 := by
  rw [value_eq_signed, units_eq_zero.2 hz]
  cases sign a <;> simp [signed]

/-- The root is rounded once (R15). -/
theorem isRounded_fsqrt (ν : Word) {a : Word} (ha : isFinite a = true) (h : 0 ≤ value a) :
    IsRounded (Real.sqrt (value a)) (fsqrt ν a) := by
  cases hz : isZero a with
  | true =>
    have hpack : a = pack (sign a) 0 :=
      eq_of_sign_mag (sign_pack_zero _).symm (by rw [mag_pack (by decide)]; simpa [isZero] using hz)
    rw [fsqrt_of_zero ν hz, value_of_zero hz, Real.sqrt_zero]
    exact hpack ▸ isRounded_zero (sign a)
  | false =>
    have hs := sign_of_value_nonneg hz h
    have hu := units_pos hz
    obtain ⟨k, m, hsig, hround⟩ := significand_sqrt (n := units a * 2 ^ 149) (Nat.le_mul_of_pos_left _ hu)
    have hval : Real.sqrt (value a) = signed false (Real.sqrt ((units a * 2 ^ 149 : ℕ) : ℝ)) / 2 ^ 149 := by
      rw [value_eq_signed, hs, signed, signed, if_neg Bool.false_ne_true, if_neg Bool.false_ne_true,
        eq_div_iff (by positivity)]
      rw [show ((2 : ℝ) ^ 149) = Real.sqrt ((2 ^ 149) ^ 2) from (Real.sqrt_sq (by positivity)).symm,
        ← Real.sqrt_mul (by positivity), Real.sqrt_sq (by positivity)]
      congr 1
      rw [Nat.cast_mul, Nat.cast_pow, Nat.cast_ofNat]
      field_simp
    have hword : fsqrt ν a = roundedWord false k m := by
      simp only [fsqrt, isNaN_of_isFinite ha, isInf_of_isFinite ha, hz, hs, Bool.false_eq_true, if_false, hround]
      rfl
    rw [hval, hword]
    exact hsig.isRounded (Real.sqrt_nonneg _) false

/-- Settles O59: each operation rounds a quotient of integers, or a root, once. -/
theorem basicOperationsRoundToNearest : Obligations.BasicOperationsRoundToNearest := by
  intro ν a b ha hb
  have hb' : isFinite (fneg b) = true := (isFinite_fneg b).trans hb
  refine ⟨isRounded_fadd ν ha hb, ?_, isRounded_fmul ν ha hb, fun hz => ⟨isRounded_fdiv ν ha hb hz, ?_⟩,
    isRounded_fsqrt ν ha, fsqrt_of_zero ν, fadd_of_sum_zero ν ha hb, fun h => ?_, ?_⟩
  · rw [sub_eq_add_neg, ← value_fneg]
    exact isRounded_fadd ν ha hb'
  · rw [fdiv_of_finite ν ha hb hz, sign_pack_roundMag]
  · rw [sub_eq_add_neg, ← value_fneg] at h
    rw [fsub, fadd_of_sum_zero ν ha hb' h, sign_fneg]
  · rw [fmul_of_finite ν ha hb, sign_pack_roundMag]

end Sys2Proof.Machine.F32
end

section
/-! The NaN draws inside a factory command or a transform never reach its result (R16, R151, R292). -/

namespace Sys2Proof.Machine.F32

/-! ### Words alike but for the sign and payload of a NaN -/

/-- The same word, or two NaNs. -/
def Alike (a b : Word) : Prop := a = b ∨ (isNaN a = true ∧ isNaN b = true)

theorem Alike.refl (a : Word) : Alike a a := .inl rfl

theorem Alike.isNaN_eq {a b : Word} (h : Alike a b) : isNaN a = isNaN b := by
  obtain rfl | ⟨ha, hb⟩ := h
  exacts [rfl, ha.trans hb.symm]

theorem Alike.eq_of_not_isNaN {a b : Word} (h : Alike a b) (ha : isNaN a = false) : a = b :=
  h.resolve_right fun h => Bool.false_ne_true (ha.symm.trans h.1)

/-- A function of words that is the same of all NaNs is the same of words alike. -/
theorem Alike.congr {α : Type} {f : Word → α} {c : α} (hf : ∀ w, isNaN w = true → f w = c) {a b : Word}
    (h : Alike a b) : f a = f b := by
  obtain rfl | ⟨ha, hb⟩ := h
  exacts [rfl, (hf a ha).trans (hf b hb).symm]

theorem Alike.isFinite_eq {a b : Word} (h : Alike a b) : isFinite a = isFinite b := by
  refine h.congr (f := isFinite) (c := false) fun w hw => ?_
  simp only [isNaN, isFinite, decide_eq_true_eq, decide_eq_false_iff_not] at hw ⊢
  omega

theorem Alike.isZero_eq {a b : Word} (h : Alike a b) : isZero a = isZero b := by
  refine h.congr (f := isZero) (c := false) fun w hw => ?_
  simp only [isNaN, isZero, decide_eq_true_eq, beq_eq_false_iff_ne] at hw ⊢
  omega

theorem Alike.plain_eq {a b : Word} (h : Alike a b) : plain a = plain b :=
  h.congr (c := 0x7FC00000#32) fun w hw => by rw [plain, hw, if_pos rfl]

theorem Alike.flt_eq {a a' b b' : Word} (ha : Alike a a') (hb : Alike b b') : flt a b = flt a' b' := by
  have hl : flt a b = flt a' b := ha.congr (f := (flt · b)) (c := false) fun w hw => by simp [flt, hw]
  have hr : flt a' b = flt a' b' := hb.congr (f := flt a') (c := false) fun w hw => by simp [flt, hw]
  exact hl.trans hr

/-! ### The operations -/

theorem alike_of_isNaN {a b : Word} (ha : isNaN a = true) (hb : isNaN b = true) : Alike a b := .inr ⟨ha, hb⟩

/-- An operation that gives a NaN for a NaN, and for one pair of operands two results alike whatever the draws, gives
results alike for operands alike. -/
theorem alike_binary {op : Word → Word → Word → Word}
    (hnan : ∀ ν a b, isNaN a = true ∨ isNaN b = true → isNaN (op ν a b) = true)
    (hdraw : ∀ ν ν' a b, Alike (op ν a b) (op ν' a b)) (ν ν' : Word) {a a' b b' : Word} (ha : Alike a a')
    (hb : Alike b b') : Alike (op ν a b) (op ν' a' b') := by
  obtain rfl | ⟨hna, hna'⟩ := ha
  · obtain rfl | ⟨hnb, hnb'⟩ := hb
    · exact hdraw ν ν' a b
    · exact alike_of_isNaN (hnan ν _ _ (.inr hnb)) (hnan ν' _ _ (.inr hnb'))
  · exact alike_of_isNaN (hnan ν _ _ (.inl hna)) (hnan ν' _ _ (.inl hna'))

section Operations

variable (ν ν' : Word) {a a' b b' : Word}

theorem alike_fadd (ha : Alike a a') (hb : Alike b b') : Alike (fadd ν a b) (fadd ν' a' b') := by
  refine alike_binary (op := fadd) (fun ν a b h => (nan_operand h).1) (fun ν ν' a b => ?_) ν ν' ha hb
  unfold fadd
  split_ifs <;> simp [Alike]

theorem Alike.fneg (h : Alike a a') : Alike (fneg a) (fneg a') := by
  obtain rfl | ⟨ha, ha'⟩ := h
  exacts [.refl _, alike_of_isNaN ((isNaN_fneg a).trans ha) ((isNaN_fneg a').trans ha')]

theorem alike_fsub (ha : Alike a a') (hb : Alike b b') : Alike (fsub ν a b) (fsub ν' a' b') :=
  alike_fadd ν ν' ha hb.fneg

theorem alike_fmul (ha : Alike a a') (hb : Alike b b') : Alike (fmul ν a b) (fmul ν' a' b') := by
  refine alike_binary (op := fmul) (fun ν a b h => (nan_operand h).2.2.1) (fun ν ν' a b => ?_) ν ν' ha hb
  unfold fmul
  split_ifs <;> simp [Alike]

theorem alike_fdiv (ha : Alike a a') (hb : Alike b b') : Alike (fdiv ν a b) (fdiv ν' a' b') := by
  refine alike_binary (op := fdiv) (fun ν a b h => (nan_operand h).2.2.2.1) (fun ν ν' a b => ?_) ν ν' ha hb
  unfold fdiv
  split_ifs <;> simp [Alike]

/-- A function that gives a NaN for a NaN gives results alike. -/
theorem Alike.map {f g : Word → Word} (hf : ∀ w, isNaN w = true → isNaN (f w) = true)
    (hg : ∀ w, isNaN w = true → isNaN (g w) = true) (hfg : ∀ w, Alike (f w) (g w)) (h : Alike a a') :
    Alike (f a) (g a') := by
  obtain rfl | ⟨ha, ha'⟩ := h
  exacts [hfg a, alike_of_isNaN (hf a ha) (hg a' ha')]

theorem alike_fsqrt (ha : Alike a a') : Alike (fsqrt ν a) (fsqrt ν' a') := by
  refine ha.map (fun w hw => fsqrt_nan hw) (fun w hw => fsqrt_nan hw) fun w => ?_
  unfold fsqrt
  split_ifs <;> simp [Alike]

end Operations

/-! ### The functions of NUM give a NaN for a NaN (R17) -/

section Num

variable {x y : Word}

theorem Alike.sin (h : Alike x y) : Alike (sin x) (sin y) :=
  have hnan : ∀ w, isNaN w = true → isNaN (F32.sin w) = true := fun w hw => by simp [F32.sin, hw]
  h.map hnan hnan fun _ => .refl _

theorem Alike.cos (h : Alike x y) : Alike (cos x) (cos y) :=
  have hnan : ∀ w, isNaN w = true → isNaN (F32.cos w) = true := fun w hw => by simp [F32.cos, hw]
  h.map hnan hnan fun _ => .refl _

theorem Alike.tan (h : Alike x y) : Alike (tan x) (tan y) :=
  have hnan : ∀ w, isNaN w = true → isNaN (F32.tan w) = true := fun w hw => by simp [F32.tan, hw]
  h.map hnan hnan fun _ => .refl _

theorem Alike.log10 (h : Alike x y) : Alike (log10 x) (log10 y) :=
  have hnan : ∀ w, isNaN w = true → isNaN (F32.log10 w) = true := fun w hw => by simp [F32.log10, hw]
  h.map hnan hnan fun _ => .refl _

theorem Alike.pow10 (h : Alike x y) : Alike (pow10 x) (pow10 y) :=
  have hnan : ∀ w, isNaN w = true → isNaN (F32.pow10 w) = true := fun w hw => by simp [F32.pow10, hw]
  h.map hnan hnan fun _ => .refl _

end Num

end Sys2Proof.Machine.F32

namespace Sys2Proof.Machine

open F32

/-! ### The factory (R156 to R165) -/

/-- Two blocks whose words are alike. -/
structure Coef.Alike (k k' : Coef) : Prop where
  b0 : F32.Alike k.b0 k'.b0
  b1 : F32.Alike k.b1 k'.b1
  b2 : F32.Alike k.b2 k'.b2
  a1 : F32.Alike k.a1 k'.a1
  a2 : F32.Alike k.a2 k'.a2

/-- The clamp of the factory's boundary makes blocks alike the same (R151). -/
theorem Coef.Alike.finalize_eq {k k' : Coef} (h : k.Alike k') : finalize k = finalize k' := by
  have hall : k.allFinite = k'.allFinite := by
    simp only [Coef.allFinite, h.b0.isFinite_eq, h.b1.isFinite_eq, h.b2.isFinite_eq, h.a1.isFinite_eq, h.a2.isFinite_eq]
  unfold finalize
  rw [← hall]
  split
  · rename_i hf
    simp only [Coef.allFinite, Bool.and_eq_true] at hf
    obtain ⟨⟨⟨⟨h0, h1⟩, h2⟩, h3⟩, h4⟩ := hf
    cases k
    cases k'
    rw [Coef.mk.injEq]
    exact ⟨h.b0.eq_of_not_isNaN (isNaN_of_isFinite h0), h.b1.eq_of_not_isNaN (isNaN_of_isFinite h1),
      h.b2.eq_of_not_isNaN (isNaN_of_isFinite h2), h.a1.eq_of_not_isNaN (isNaN_of_isFinite h3),
      h.a2.eq_of_not_isNaN (isNaN_of_isFinite h4)⟩
  · rfl

theorem belowNyquist_draw (ν ν' f fs : Word) : belowNyquist ν f fs = belowNyquist ν' f fs :=
  Alike.flt_eq (.refl f) (alike_fmul ν ν' (.refl half) (.refl fs))

theorem validCutoff_draw (ν ν' fc fs : Word) : validCutoff ν fc fs = validCutoff ν' fc fs := by
  rw [validCutoff, validCutoff, belowNyquist_draw ν ν']

theorem alike_peakCoef (ν ν' f g q fs : Word) : (peakCoef ν f g q fs).Alike (peakCoef ν' f g q fs) :=
  have hamp := (alike_fdiv ν ν' (.refl g) (.refl forty)).pow10
  have hw0 := alike_fdiv ν ν' (alike_fmul ν ν' (.refl twoPi) (.refl f)) (.refl fs)
  have halpha := alike_fdiv ν ν' hw0.sin (alike_fmul ν ν' (.refl two) (.refl q))
  have hc := alike_fmul ν ν' (.refl negTwo) hw0.cos
  have haA := alike_fmul ν ν' halpha hamp
  have haOA := alike_fdiv ν ν' halpha hamp
  have ha0 := alike_fadd ν ν' (.refl one) haOA
  { b0 := alike_fdiv ν ν' (alike_fadd ν ν' (.refl one) haA) ha0
    b1 := alike_fdiv ν ν' hc ha0
    b2 := alike_fdiv ν ν' (alike_fsub ν ν' (.refl one) haA) ha0
    a1 := alike_fdiv ν ν' hc ha0
    a2 := alike_fdiv ν ν' (alike_fsub ν ν' (.refl one) haOA) ha0 }

theorem alike_highPassCoef (ν ν' fc fs iq : Word) : (highPassCoef ν fc fs iq).Alike (highPassCoef ν' fc fs iq) :=
  have ht := (alike_fdiv ν ν' (alike_fmul ν ν' (.refl pi) (.refl fc)) (.refl fs)).tan
  have hn2 := alike_fmul ν ν' ht ht
  have hqn := alike_fmul ν ν' (.refl iq) ht
  have hd := alike_fadd ν ν' (alike_fadd ν ν' (.refl one) hqn) hn2
  have hc1 := alike_fdiv ν ν' (.refl one) hd
  { b0 := hc1
    b1 := alike_fmul ν ν' (.refl negTwo) hc1
    b2 := hc1
    a1 := alike_fmul ν ν' (alike_fmul ν ν' (.refl two) hc1) (alike_fsub ν ν' hn2 (.refl one))
    a2 := alike_fmul ν ν' hc1 (alike_fadd ν ν' (alike_fsub ν ν' (.refl one) hqn) hn2) }

theorem alike_lowPassCoef (ν ν' fc fs iq : Word) : (lowPassCoef ν fc fs iq).Alike (lowPassCoef ν' fc fs iq) :=
  have ht := alike_fdiv ν ν' (.refl one) (alike_fdiv ν ν' (alike_fmul ν ν' (.refl pi) (.refl fc)) (.refl fs)).tan
  have hn2 := alike_fmul ν ν' ht ht
  have hqn := alike_fmul ν ν' (.refl iq) ht
  have hd := alike_fadd ν ν' (alike_fadd ν ν' (.refl one) hqn) hn2
  have hc1 := alike_fdiv ν ν' (.refl one) hd
  { b0 := hc1
    b1 := alike_fmul ν ν' (.refl two) hc1
    b2 := hc1
    a1 := alike_fmul ν ν' (alike_fmul ν ν' (.refl two) hc1) (alike_fsub ν ν' (.refl one) hn2)
    a2 := alike_fmul ν ν' hc1 (alike_fadd ν ν' (alike_fsub ν ν' (.refl one) hqn) hn2) }

theorem peakBlock_draw (ν ν' f g q fs : Word) : peakBlock ν f g q fs = peakBlock ν' f g q fs := by
  rw [peakBlock, peakBlock, belowNyquist_draw ν ν', (alike_peakCoef ν ν' f g q fs).finalize_eq]

theorem lowCutBlock_draw (ν ν' fc fs iq : Word) : lowCutBlock ν fc fs iq = lowCutBlock ν' fc fs iq := by
  rw [lowCutBlock, lowCutBlock, validCutoff_draw ν ν', (alike_highPassCoef ν ν' fc fs iq).finalize_eq]

theorem highCutBlock_draw (ν ν' fc fs iq : Word) : highCutBlock ν fc fs iq = highCutBlock ν' fc fs iq := by
  rw [highCutBlock, highCutBlock, validCutoff_draw ν ν', (alike_lowPassCoef ν ν' fc fs iq).finalize_eq]

/-! ### The transform (R290, R291) -/

/-- Two complex numbers whose words are alike. -/
structure AlikeCpx (a b : Cpx) : Prop where
  re : F32.Alike a.re b.re
  im : F32.Alike a.im b.im

theorem AlikeCpx.refl (a : Cpx) : AlikeCpx a a := ⟨.refl _, .refl _⟩

theorem AlikeCpx.twiddleMul (ν ν' : Word) (w : Cpx) {b b' : Cpx} (h : AlikeCpx b b') :
    AlikeCpx (twiddleMul ν w b) (twiddleMul ν' w b') :=
  ⟨alike_fsub ν ν' (alike_fmul ν ν' (.refl _) h.re) (alike_fmul ν ν' (.refl _) h.im),
    alike_fadd ν ν' (alike_fmul ν ν' (.refl _) h.im) (alike_fmul ν ν' (.refl _) h.re)⟩

theorem AlikeCpx.add (ν ν' : Word) {a a' b b' : Cpx} (ha : AlikeCpx a a') (hb : AlikeCpx b b') :
    AlikeCpx (Cpx.add ν a b) (Cpx.add ν' a' b') :=
  ⟨alike_fadd ν ν' ha.re hb.re, alike_fadd ν ν' ha.im hb.im⟩

theorem AlikeCpx.sub (ν ν' : Word) {a a' b b' : Cpx} (ha : AlikeCpx a a') (hb : AlikeCpx b b') :
    AlikeCpx (Cpx.sub ν a b) (Cpx.sub ν' a' b') :=
  ⟨alike_fsub ν ν' ha.re hb.re, alike_fsub ν ν' ha.im hb.im⟩

/-- Lists related element by element stay so under related functions of two arguments. -/
theorem forall₂_zipWith {α α' β β' γ γ' : Type} {R : α → α' → Prop} {S : β → β' → Prop} {T : γ → γ' → Prop}
    {f : α → β → γ} {f' : α' → β' → γ'} (hf : ∀ a a' b b', R a a' → S b b' → T (f a b) (f' a' b')) {as : List α}
    {as' : List α'} {bs : List β} {bs' : List β'} (ha : List.Forall₂ R as as') (hb : List.Forall₂ S bs bs') :
    List.Forall₂ T (List.zipWith f as bs) (List.zipWith f' as' bs') := by
  induction ha generalizing bs bs' with
  | nil => exact .nil
  | cons hR _ ih =>
    cases hb with
    | nil => exact .nil
    | cons hS hb => exact .cons (hf _ _ _ _ hR hS) (ih hb)

theorem forall₂_refl_of {α : Type} {R : α → α → Prop} (hR : ∀ a, R a a) (as : List α) : List.Forall₂ R as as :=
  List.forall₂_same.2 fun a _ => hR a

theorem alike_getD {u u' : List Word} (h : List.Forall₂ F32.Alike u u') (i : Nat) :
    F32.Alike (u.getD i zero) (u'.getD i zero) := by
  induction h generalizing i with
  | nil => exact .refl _
  | cons hR _ ih =>
    cases i with
    | zero => exact hR
    | succ i => exact ih i

theorem alike_butterflies (ν ν' : Word) (tw : List Cpx) {xs xs' : List Cpx} (h : List.Forall₂ AlikeCpx xs xs') :
    List.Forall₂ AlikeCpx (butterflies ν tw xs) (butterflies ν' tw xs') := by
  have htop := List.forall₂_take tw.length h
  have hts : List.Forall₂ AlikeCpx (List.zipWith (twiddleMul ν) tw (xs.drop tw.length))
      (List.zipWith (twiddleMul ν') tw (xs'.drop tw.length)) :=
    forall₂_zipWith (R := Eq) (fun w _ b b' hw hb => hw ▸ hb.twiddleMul ν ν' w) (forall₂_refl_of (fun _ => rfl) tw)
      (List.forall₂_drop tw.length h)
  exact List.rel_append (forall₂_zipWith (fun _ _ _ _ ha hb => ha.add ν ν' hb) htop hts)
    (forall₂_zipWith (fun _ _ _ _ ha hb => ha.sub ν ν' hb) htop hts)

theorem alike_fftPass (κ : Config) (ν ν' : Word) {xs xs' : List Cpx} (h : List.Forall₂ AlikeCpx xs xs') (p : Nat) :
    List.Forall₂ AlikeCpx (fftPass κ ν xs p) (fftPass κ ν' xs' p) :=
  List.rel_flatMap (R := Eq) (forall₂_refl_of (fun _ => rfl) _) fun _ _ hg =>
    hg ▸ alike_butterflies ν ν' _ (List.forall₂_take _ (List.forall₂_drop _ h))

theorem alike_fft (κ : Config) (ν ν' : Word) {u u' : List Word} (h : List.Forall₂ F32.Alike u u') :
    List.Forall₂ AlikeCpx (fft κ ν u) (fft κ ν' u') := by
  refine List.rel_foldl (P := List.Forall₂ AlikeCpx) (R := Eq)
    (fun xs xs' hx p _ hp => hp ▸ alike_fftPass κ ν ν' hx p) ?_ (forall₂_refl_of (fun _ => rfl) _)
  exact List.rel_map (R := Eq) (fun i _ hi => hi ▸ ⟨alike_getD h _, .refl _⟩) (forall₂_refl_of (fun _ => rfl) _)

/-- Lists related element by element have the same images under functions that agree on related elements. -/
theorem map_eq_of_forall₂ {α β γ : Type} {R : α → β → Prop} {f : α → γ} {g : β → γ} (hfg : ∀ a b, R a b → f a = g b)
    {as : List α} {bs : List β} (h : List.Forall₂ R as bs) : as.map f = bs.map g := by
  induction h with
  | nil => rfl
  | cons hR _ ih => rw [List.map_cons, List.map_cons, hfg _ _ hR, ih]

theorem all_eq_of_forall₂ {α β : Type} {R : α → β → Prop} {p : α → Bool} {q : β → Bool}
    (hpq : ∀ a b, R a b → p a = q b) {as : List α} {bs : List β} (h : List.Forall₂ R as bs) : as.all p = bs.all q := by
  have hmap := congrArg (List.all · id) (map_eq_of_forall₂ hpq h)
  simpa only [List.all_map, Function.id_comp] using hmap

/-- Finite words alike are the same. -/
theorem eq_of_alike_of_finite {u u' : List Word} (h : List.Forall₂ F32.Alike u u') (hf : u.all isFinite = true) :
    u = u' := by
  induction h with
  | nil => rfl
  | cons hR _ ih =>
    rw [List.all_cons, Bool.and_eq_true] at hf
    rw [hR.eq_of_not_isNaN (isNaN_of_isFinite hf.1), ih hf.2]

/-- Another transform reads no NaN's sign and payload (R291). -/
theorem otherFftAt_eq_of_alike (κ : Config) {u u' : List Word} (h : List.Forall₂ F32.Alike u u') (k : Nat) :
    otherFftAt κ u k = otherFftAt κ u' k := by
  have hplain : u.map plain = u'.map plain := map_eq_of_forall₂ (fun _ _ hR => hR.plain_eq) h
  have hzero : u.all isZero = u'.all isZero := all_eq_of_forall₂ (fun _ _ hR => hR.isZero_eq) h
  have hfinite : u.all isFinite = u'.all isFinite := all_eq_of_forall₂ (fun _ _ hR => hR.isFinite_eq) h
  cases hf : u.all isFinite with
  | true => rw [eq_of_alike_of_finite h hf]
  | false =>
    rw [otherFftAt, otherFftAt, ← hplain, ← hzero, ← hfinite, hf, if_neg Bool.false_ne_true, if_neg Bool.false_ne_true]

theorem alike_transform (κ : Config) (ν ν' : Word) {u u' : List Word} (h : List.Forall₂ F32.Alike u u') :
    List.Forall₂ AlikeCpx (transform κ ν u) (transform κ ν' u') := by
  cases hfft : κ.fft with
  | standard =>
    rw [transform_standard ν u hfft, transform_standard ν' u' hfft]
    exact alike_fft κ ν ν' h
  | other =>
    rw [transform_other ν u hfft, transform_other ν' u' hfft,
      List.map_congr_left fun k _ => otherFftAt_eq_of_alike κ h k]
    exact forall₂_refl_of .refl _

/-! ### The decibel values (R292) -/

/-- The scaled magnitude of an output of the transform (R292, `m`). -/
def binMagnitude (κ : Config) (ν : Word) (x : Cpx) : Word :=
  fmul ν (fsqrt ν (fadd ν (fmul ν x.re x.re) (fmul ν x.im x.im))) (scale κ)

/-- A magnitude in decibels, before the clamp (R292, `l`). -/
def decibels (ν m : Word) : Word := fmul ν twenty (log10 m)

/-- The clamp of R292 around the two. -/
theorem magDb_eq (κ : Config) (ν floor : Word) (x : Cpx) :
    magDb κ ν floor x =
      if isNaN (binMagnitude κ ν x) || !fgt (binMagnitude κ ν x) zero then floor
      else if isNaN (decibels ν (binMagnitude κ ν x)) || flt (decibels ν (binMagnitude κ ν x)) floor then floor
      else decibels ν (binMagnitude κ ν x) := rfl

theorem alike_binMagnitude (κ : Config) (ν ν' : Word) {x x' : Cpx} (h : AlikeCpx x x') :
    F32.Alike (binMagnitude κ ν x) (binMagnitude κ ν' x') :=
  alike_fmul ν ν' (alike_fsqrt ν ν' (alike_fadd ν ν' (alike_fmul ν ν' h.re h.re) (alike_fmul ν ν' h.im h.im)))
    (.refl (scale κ))

theorem alike_decibels (ν ν' : Word) {m m' : Word} (h : F32.Alike m m') :
    F32.Alike (decibels ν m) (decibels ν' m') := alike_fmul ν ν' (.refl twenty) h.log10

/-- A decibel value reads no NaN's sign and payload: a NaN magnitude or logarithm is shown as the floor. -/
theorem magDb_eq_of_alike (κ : Config) (ν ν' floor : Word) {x x' : Cpx} (h : AlikeCpx x x') :
    magDb κ ν floor x = magDb κ ν' floor x' := by
  have hm := alike_binMagnitude κ ν ν' h
  have hgt : fgt (binMagnitude κ ν x) zero = fgt (binMagnitude κ ν' x') zero := (Alike.refl zero).flt_eq hm
  rw [magDb_eq, magDb_eq, hm.isNaN_eq, hgt]
  obtain he | ⟨hn, hn'⟩ := alike_decibels ν ν' hm
  · rw [he]
  · rw [hn, hn', Bool.true_or, Bool.true_or, if_pos rfl, if_pos rfl]

theorem spectrum_draw (κ : Config) (ν ν' floor : Word) (roll : List Word) :
    spectrum κ ν floor roll = spectrum κ ν' floor roll :=
  map_eq_of_forall₂ (fun _ _ h => magDb_eq_of_alike κ ν ν' floor h) (List.forall₂_take _ (alike_transform κ ν ν'
    (forall₂_zipWith (f := fmul ν) (f' := fmul ν') (fun _ _ _ _ ha hb => alike_fmul ν ν' ha hb)
      (forall₂_refl_of F32.Alike.refl roll) (forall₂_refl_of F32.Alike.refl κ.win))))

/-- Settles O19: two draws give words alike everywhere inside, and every result hides what differs. -/
theorem nanDrawsNeverShow : Obligations.NanDrawsNeverShow :=
  ⟨peakBlock_draw, fun ν ν' fc fs iq => ⟨lowCutBlock_draw ν ν' fc fs iq, highCutBlock_draw ν ν' fc fs iq⟩,
    spectrum_draw⟩

end Sys2Proof.Machine
end

section
/-! The decibel values of XFORM: no NaN, not below the floor, and finite unless the squared magnitude overflows. -/

namespace Sys2Proof.Machine.F32

open Reference

/-! ### Bounds of values -/

/-- The value of a word up to the magnitude of a power of two. -/
theorem abs_value_le_of_mag {w : Word} {j : Nat} (h : mag w ≤ j * 2 ^ 23 + 2 ^ 23) :
    |value w| ≤ 2 ^ (23 + j) / 2 ^ 149 := by
  have hu : units w ≤ 2 ^ (23 + j) := by
    rw [units_eq, pow_add, ← magUnits_eq (.inr le_rfl) (by decide)]
    exact magUnits_strictMono.monotone h
  rw [value_eq_signed, abs_div, abs_of_pos (show (0 : ℝ) < 2 ^ 149 by positivity),
    show |signed (sign w) (units w)| = units w by cases sign w <;> simp [signed]]
  exact div_le_div_of_nonneg_right (by exact_mod_cast hu) (by positivity)

theorem abs_value_le_of_isFinite {w : Word} (h : isFinite w = true) : |value w| ≤ 2 ^ 128 := by
  have hm : mag w ≤ 254 * 2 ^ 23 + 2 ^ 23 := by
    have := of_decide_eq_true h
    simp only [infBits] at this
    omega
  refine (abs_value_le_of_mag hm).trans_eq ?_
  rw [div_eq_iff (by positivity), ← pow_add]

/-- A power of two as a word. -/
theorem value_pow_two {j : Nat} (h : j ≤ 253) : value (pack false (j * 2 ^ 23 + 2 ^ 23)) = 2 ^ (23 + j) / 2 ^ 149 := by
  have hm : j * 2 ^ 23 + 2 ^ 23 < 2 ^ 31 := by omega
  rw [value_eq_signed, sign_pack hm, units_eq, mag_pack hm, magUnits_eq (.inr le_rfl) (by decide), signed,
    if_neg Bool.false_ne_true, ← pow_add, Nat.cast_pow, Nat.cast_ofNat]

theorem isFinite_pow_two {j : Nat} (h : j ≤ 253) : isFinite (pack false (j * 2 ^ 23 + 2 ^ 23)) = true := by
  rw [isFinite, mag_pack (by omega), decide_eq_true_eq]
  simp only [infBits]
  omega

/-- From 2^127 down no magnitude overflows. -/
theorem lt_overflowBound {x : ℝ} (h : |x| ≤ 2 ^ 127) : ¬ overflowBound ≤ |x| := by
  rw [not_le, overflowBound]
  refine h.trans_lt ?_
  norm_num

theorem isFinite_of_isRounded {x : ℝ} {r : Word} (h : IsRounded x r) (hx : |x| ≤ 2 ^ 127) : isFinite r = true := by
  rw [IsRounded, if_neg (lt_overflowBound hx)] at h
  exact h.1

/-- Rounding does not go past an `F32` value. -/
theorem abs_value_le_of_isRounded {x : ℝ} {r w : Word} (h : IsRounded x r) (hw : isFinite w = true)
    (hx : |x| ≤ value w) (hover : |x| ≤ 2 ^ 127) : |value r| ≤ value w := by
  rw [IsRounded, if_neg (lt_overflowBound hover)] at h
  obtain ⟨-, hnear, -⟩ := h
  obtain ⟨hlo, hhi⟩ := abs_le.1 hx
  have habove := hnear w hw
  have hbelow := hnear (fneg w) ((isFinite_fneg w).trans hw)
  rw [abs_of_nonneg (by linarith : 0 ≤ value w - x)] at habove
  rw [value_fneg, abs_of_nonpos (by linarith : -value w - x ≤ 0)] at hbelow
  have hup := (abs_le.1 habove).2
  have hdown := (abs_le.1 hbelow).1
  exact abs_le.2 ⟨by linarith, by linarith⟩

/-- The product of finite words whose exact product does not overflow. -/
theorem isFinite_fmul (ν : Word) {a b : Word} (ha : isFinite a = true) (hb : isFinite b = true) {A B : ℝ}
    (hA : |value a| ≤ A) (hB : |value b| ≤ B) (hAB : A * B ≤ 2 ^ 127) : isFinite (fmul ν a b) = true := by
  refine isFinite_of_isRounded (isRounded_fmul ν ha hb) ?_
  rw [abs_mul]
  exact (mul_le_mul hA hB (abs_nonneg _) ((abs_nonneg _).trans hA)).trans hAB

/-- The root of a finite word that is not negative is at most 2^64. -/
theorem fsqrt_bounded (ν : Word) {p : Word} (hp : isFinite p = true) (h : 0 ≤ value p) :
    isFinite (fsqrt ν p) = true ∧ |value (fsqrt ν p)| ≤ 2 ^ 64 := by
  have hroot : Real.sqrt (value p) ≤ 2 ^ 64 := by
    rw [Real.sqrt_le_left (by positivity), ← pow_mul]
    exact (le_abs_self _).trans (abs_value_le_of_isFinite hp)
  have hsmall : |Real.sqrt (value p)| ≤ 2 ^ 127 := by
    rw [abs_of_nonneg (Real.sqrt_nonneg _)]
    exact hroot.trans (pow_le_pow_right₀ one_le_two (by decide))
  have hround := isRounded_fsqrt ν hp h
  have hw : value (pack false (190 * 2 ^ 23 + 2 ^ 23)) = 2 ^ 64 := by
    rw [value_pow_two (by decide), div_eq_iff (by positivity), ← pow_add]
  refine ⟨isFinite_of_isRounded hround hsmall, ?_⟩
  rw [← hw]
  refine abs_value_le_of_isRounded hround (isFinite_pow_two (by decide)) ?_ hsmall
  rwa [hw, abs_of_nonneg (Real.sqrt_nonneg _)]

/-! ### The bracketing words of a bounded number (R17) -/

/-- Within 2^17 the magnitude's exponent stays below 145. -/
theorem exponent_le {q : ℚ} (h : q ≤ 2 ^ 17) : (q * 2 ^ 149).floor.toNat.log2 - 23 ≤ 143 := by
  have hu : q * 2 ^ 149 ≤ 2 ^ 166 := by
    calc q * 2 ^ 149 ≤ 2 ^ 17 * 2 ^ 149 := mul_le_mul_of_nonneg_right h (by positivity)
      _ = 2 ^ 166 := (pow_add 2 17 149).symm
  have hfloor : (q * 2 ^ 149).floor.toNat ≤ 2 ^ 166 := by
    have hle : (q * 2 ^ 149).floor ≤ 2 ^ 166 := by
      have : ((q * 2 ^ 149).floor : ℚ) ≤ ((2 ^ 166 : ℤ) : ℚ) := by
        refine (Int.floor_le (q * 2 ^ 149)).trans (hu.trans_eq ?_)
        norm_cast
      exact_mod_cast this
    omega
  have hlog : (q * 2 ^ 149).floor.toNat.log2 < 167 := by
    by_cases hz : (q * 2 ^ 149).floor.toNat = 0
    · rw [hz]
      decide
    · exact (Nat.log2_lt hz).2 (hfloor.trans_lt (by decide))
  omega

/-- The significand of a number at its exponent has at most 24 bits. -/
theorem significand_le {u : ℚ} (h : 0 ≤ u) : u / 2 ^ (u.floor.toNat.log2 - 23) ≤ ((2 ^ 24 : ℤ) : ℚ) := by
  have hexp := (log2_exponent u.floor.toNat).2
  have hfloor : 0 ≤ u.floor := Int.floor_nonneg.2 h
  generalize hk : u.floor.toNat.log2 - 23 = k at *
  have hlt : u < (2 : ℚ) ^ (24 + k) := by
    calc u < u.floor + 1 := Int.lt_floor_add_one u
      _ = ((u.floor.toNat + 1 : ℕ) : ℚ) := by
        rw [Nat.cast_add, Nat.cast_one, ← Int.cast_natCast, Int.toNat_of_nonneg hfloor]
      _ ≤ ((2 ^ (24 + k) : ℕ) : ℚ) := by exact_mod_cast hexp
      _ = 2 ^ (24 + k) := by rw [Nat.cast_pow, Nat.cast_ofNat]
  rw [div_le_iff₀ (by positivity), Int.cast_pow, Int.cast_ofNat, ← pow_add]
  exact hlt.le

theorem significand_floor_le {u : ℚ} (h : 0 ≤ u) : Rat.floor (u / 2 ^ (u.floor.toNat.log2 - 23)) ≤ 2 ^ 24 :=
  Int.cast_le.1 ((Int.floor_le _).trans (significand_le h))

theorem significand_ceil_le {u : ℚ} (h : 0 ≤ u) : Rat.ceil (u / 2 ^ (u.floor.toNat.log2 - 23)) ≤ 2 ^ 24 :=
  Rat.ceil_le_iff.2 (significand_le h)

theorem magAbove_le_of_le {q : ℚ} (h0 : 0 ≤ q) (h : q ≤ 2 ^ 17) : magAbove q ≤ 144 * 2 ^ 23 + 2 ^ 23 := by
  have hexp := exponent_le h
  have hsig := significand_ceil_le (u := q * 2 ^ 149) (by positivity)
  refine (min_le_left _ _).trans ?_
  generalize (q * 2 ^ 149).floor.toNat.log2 - 23 = k at *
  omega

theorem magBelow_le_of_le {q : ℚ} (h0 : 0 ≤ q) (h : q ≤ 2 ^ 17) : magBelow q ≤ 144 * 2 ^ 23 + 2 ^ 23 := by
  have hexp := exponent_le h
  have hsig := significand_floor_le (u := q * 2 ^ 149) (by positivity)
  refine (min_le_left _ _).trans ?_
  generalize (q * 2 ^ 149).floor.toNat.log2 - 23 = k at *
  omega

theorem mag_above_le {q : ℚ} (h : |q| ≤ 2 ^ 17) : mag (above q) ≤ 144 * 2 ^ 23 + 2 ^ 23 := by
  obtain ⟨hlo, hhi⟩ := abs_le.1 h
  unfold above
  split
  · rename_i h0
    have hm := magAbove_le_of_le h0 hhi
    rwa [mag_pack (by omega)]
  · rename_i h0
    have hm := magBelow_le_of_le (q := -q) (by linarith) (by linarith)
    rwa [mag_pack (by omega)]

theorem mag_below_le {q : ℚ} (h : |q| ≤ 2 ^ 17) : mag (below q) ≤ 144 * 2 ^ 23 + 2 ^ 23 := by
  obtain ⟨hlo, hhi⟩ := abs_le.1 h
  unfold below
  split
  · rename_i h0
    have hm := magBelow_le_of_le h0 hhi
    rwa [mag_pack (by omega)]
  · rename_i h0
    have hm := magAbove_le_of_le (q := -q) (by linarith) (by linarith)
    rwa [mag_pack (by omega)]

end Sys2Proof.Machine.F32

namespace Sys2Proof.Machine

/-! ### The enclosures of the logarithm (R17) -/

/-- Both ends of the enclosure are at most `B` away from 0. -/
def Enclosure.Within (B : ℚ) (a : Enclosure) : Prop := |a.lo| ≤ B ∧ |a.hi| ≤ B

theorem abs_min_le {x y B : ℚ} (hx : |x| ≤ B) (hy : |y| ≤ B) : |min x y| ≤ B := by
  rcases min_choice x y with h | h <;> rw [h] <;> assumption

theorem abs_max_le {x y B : ℚ} (hx : |x| ≤ B) (hy : |y| ≤ B) : |max x y| ≤ B := by
  rcases max_choice x y with h | h <;> rw [h] <;> assumption

theorem Enclosure.Within.add {A B : ℚ} {a b : Enclosure} (ha : a.Within A) (hb : b.Within B) :
    (a.add b).Within (A + B) :=
  ⟨(abs_add_le _ _).trans (add_le_add ha.1 hb.1), (abs_add_le _ _).trans (add_le_add ha.2 hb.2)⟩

theorem Enclosure.Within.scale {B C q : ℚ} {a : Enclosure} (ha : a.Within B) (hq : |q| ≤ C) :
    (a.scale q).Within (C * B) := by
  have hmul : ∀ x, |x| ≤ B → |q * x| ≤ C * B := fun x hx => by
    rw [abs_mul]
    exact mul_le_mul hq hx (abs_nonneg _) ((abs_nonneg _).trans hq)
  exact ⟨abs_min_le (hmul _ ha.1) (hmul _ ha.2), abs_max_le (hmul _ ha.1) (hmul _ ha.2)⟩

theorem Enclosure.Within.div {B : ℚ} {a b : Enclosure} (ha : a.Within B) (hlo : 1 ≤ b.lo) (hhi : 1 ≤ b.hi) :
    (a.div b).Within B := by
  have hdiv : ∀ x y : ℚ, |x| ≤ B → 1 ≤ y → |x / y| ≤ B := fun x y hx hy => by
    rw [abs_div, abs_of_pos (show (0 : ℚ) < y by linarith)]
    exact (div_le_self (abs_nonneg _) hy).trans hx
  exact ⟨abs_min_le (hdiv _ _ ha.1 hlo) (hdiv _ _ ha.1 hhi), abs_max_le (hdiv _ _ ha.2 hlo) (hdiv _ _ ha.2 hhi)⟩

/-- The sum of the first terms of the logarithm's series. -/
theorem logSeries_bounds {u : ℚ} (h0 : 0 ≤ u) (h1 : u ≤ 1) (n k : Nat) :
    0 ≤ logSeries u n (k + 1) ∧ logSeries u n (k + 1) ≤ n := by
  induction n generalizing k with
  | zero => exact ⟨le_rfl, Nat.cast_nonneg _⟩
  | succ n ih =>
    obtain ⟨hlo, hhi⟩ := ih (k + 1)
    have hk : (0 : ℚ) < ((k + 1 : ℕ) : ℚ) := by exact_mod_cast Nat.succ_pos k
    have hterm : 1 / ((k + 1 : ℕ) : ℚ) ≤ 1 := (div_le_one hk).2 (by exact_mod_cast Nat.succ_pos k)
    have hrest := mul_le_mul h1 hhi hlo zero_le_one
    simp only [logSeries]
    refine ⟨add_nonneg (by positivity) (mul_nonneg h0 hlo), ?_⟩
    push_cast at hterm hrest ⊢
    linarith

/-- The series starts with 1. -/
theorem one_le_logSeries {u : ℚ} (h0 : 0 ≤ u) (h1 : u ≤ 1) (n : Nat) : 1 ≤ logSeries u (n + 1) 1 := by
  have h := mul_nonneg h0 (logSeries_bounds h0 h1 n 1).1
  rw [logSeries, Nat.cast_one, div_one]
  linarith

/-- ln z for z from 1 to 2, roughly. -/
theorem lnEnclosure_bounds {z : ℚ} (h1 : 1 ≤ z) (h2 : z ≤ 2) :
    1 - 1 / z ≤ (lnEnclosure z).lo ∧ (lnEnclosure z).lo ≤ (lnEnclosure z).hi ∧ (lnEnclosure z).hi ≤ 129 := by
  have hz : (0 : ℚ) < z := by linarith
  have hinv : 1 / 2 ≤ 1 / z := one_div_le_one_div_of_le hz h2
  have hinv' : 1 / z ≤ 1 := (div_le_one hz).2 h1
  simp only [lnEnclosure]
  generalize hu : 1 - 1 / z = u
  have hu0 : 0 ≤ u := by linarith
  have hu1 : u ≤ 1 / 2 := by linarith
  obtain ⟨-, hhi⟩ := logSeries_bounds hu0 (by linarith) 256 0
  have hlo := one_le_logSeries hu0 (by linarith) 255
  have hsum : u * logSeries u 256 1 ≤ 1 / 2 * 256 := mul_le_mul hu1 (by exact_mod_cast hhi) (by linarith) (by norm_num)
  have hrest0 : 0 ≤ u ^ 257 / (1 - u) := div_nonneg (by positivity) (by linarith)
  have hrest : u ^ 257 / (1 - u) ≤ 1 := by
    rw [div_le_one (by linarith)]
    have hpow : u ^ 257 ≤ u ^ 1 := pow_le_pow_of_le_one hu0 (by linarith) (by decide)
    linarith
  exact ⟨le_mul_of_one_le_right hu0 hlo, by linarith, by linarith⟩

theorem lnEnclosure_within {z : ℚ} (h1 : 1 ≤ z) (h2 : z ≤ 2) : (lnEnclosure z).Within 129 := by
  obtain ⟨hlo, hle, hhi⟩ := lnEnclosure_bounds h1 h2
  have hpos : 1 / z ≤ 1 := (div_le_one (by linarith)).2 h1
  exact ⟨abs_le.2 ⟨by linarith, by linarith⟩, abs_le.2 ⟨by linarith, hhi⟩⟩

/-- ln 10 is above 1, also at the lower end of its enclosure. -/
theorem one_le_lnTen : 1 ≤ lnTen.lo ∧ 1 ≤ lnTen.hi := by
  obtain ⟨hlo, hle, -⟩ := lnEnclosure_bounds (z := 2) (by norm_num) le_rfl
  obtain ⟨hlo', hle', -⟩ := lnEnclosure_bounds (z := 5 / 4) (by norm_num) (by norm_num)
  simp only [lnTen, Enclosure.add, Enclosure.scale]
  rw [min_eq_left (by linarith), max_eq_right (by linarith)]
  norm_num at hlo hlo'
  constructor <;> linarith

/-- The logarithm of a finite positive word is small. -/
theorem log10Enclosure_within {n e : Nat} (h0 : n ≠ 0) (h : n ≤ 2 ^ e) (he : e ≤ 277) :
    (log10Enclosure n).Within (2 ^ 17) := by
  have hlog : n.log2 ≤ 277 := ((Nat.pow_le_pow_iff_right one_lt_two).1 ((Nat.log2_self_le h0).trans h)).trans he
  have hpow : (0 : ℚ) < 2 ^ n.log2 := by positivity
  have hz1 : 1 ≤ (n : ℚ) / 2 ^ n.log2 := by
    rw [one_le_div hpow]
    exact_mod_cast Nat.log2_self_le h0
  have hz2 : (n : ℚ) / 2 ^ n.log2 ≤ 2 := by
    rw [div_le_iff₀ hpow, ← pow_succ']
    exact_mod_cast (Nat.lt_log2_self (n := n)).le
  have hexp : |(n.log2 : ℚ) - 149| ≤ 149 := by
    have hq : (n.log2 : ℚ) ≤ 277 := by exact_mod_cast hlog
    have hq0 : (0 : ℚ) ≤ n.log2 := Nat.cast_nonneg _
    exact abs_le.2 ⟨by linarith, by linarith⟩
  have hsum := (lnEnclosure_within hz1 hz2).add ((lnEnclosure_within (by norm_num) le_rfl).scale hexp)
  obtain ⟨hlo, hhi⟩ := hsum.div one_le_lnTen.1 one_le_lnTen.2
  exact ⟨hlo.trans (by norm_num), hhi.trans (by norm_num)⟩

open F32 Reference

/-- The logarithm of a finite positive word has a small magnitude (R17). -/
theorem mag_log10_le {m : Word} (hf : isFinite m = true) (hs : sign m = false) (hz : isZero m = false) :
    mag (log10 m) ≤ 144 * 2 ^ 23 + 2 ^ 23 := by
  have hu : units m ≤ 2 ^ (23 + 254) := by
    have hm : mag m ≤ 254 * 2 ^ 23 + 2 ^ 23 := by
      have := of_decide_eq_true hf
      simp only [infBits] at this
      omega
    rw [units_eq, pow_add, ← magUnits_eq (k := 254) (.inr le_rfl) (by decide)]
    exact magUnits_strictMono.monotone hm
  obtain ⟨hlo, hhi⟩ := log10Enclosure_within (units_pos hz).ne' hu le_rfl
  have hinf : m ≠ 0x7F800000#32 := fun h => by rw [h] at hf; exact absurd hf (by decide)
  simp only [log10, isNaN_of_isFinite hf, hf, hs, hz, hinf, Bool.false_eq_true, if_false, Bool.not_false, Bool.and_self,
    if_true]
  split
  · decide
  · obtain h | h | ⟨h, -⟩ := faithful_cases (Config.log10Raw m) (log10Enclosure (units m)) <;> rw [h]
    · exact mag_above_le hlo
    · exact mag_below_le hhi
    · rw [mag_pack (by decide)]
      exact Nat.zero_le _

/-! ### The bins (R292, R294) -/

/-- The scale of the magnitudes is at most 2 (R292). -/
theorem mag_scale_le (κ : Config) : mag (scale κ) ≤ 127 * 2 ^ 23 + 2 ^ 23 := by
  rw [scale, mag_pack (by omega)]
  omega

theorem isFinite_of_mag_le {w : Word} {j : Nat} (hj : j ≤ 253) (h : mag w ≤ j * 2 ^ 23 + 2 ^ 23) :
    isFinite w = true := by
  rw [isFinite, decide_eq_true_eq]
  simp only [infBits]
  omega

/-- The scaled magnitude is a NaN or finite when the squared magnitude does not overflow (R292). -/
theorem binMagnitude_finite (κ : Config) (ν : Word) {x : Cpx}
    (hp : isInf (fadd ν (fmul ν x.re x.re) (fmul ν x.im x.im)) = false) :
    isNaN (binMagnitude κ ν x) = true ∨ isFinite (binMagnitude κ ν x) = true := by
  unfold binMagnitude
  generalize fadd ν (fmul ν x.re x.re) (fmul ν x.im x.im) = p at *
  have hnan : isNaN (fsqrt ν p) = true → isNaN (fmul ν (fsqrt ν p) (scale κ)) = true := fun h =>
    (nan_operand (.inl h)).2.2.1
  cases hn : isNaN p with
  | true => exact .inl (hnan (fsqrt_nan hn))
  | false =>
    have hf := isFinite_of_not hn hp
    by_cases h0 : 0 ≤ value p
    · obtain ⟨hr, hb⟩ := fsqrt_bounded ν hf h0
      refine .inr (isFinite_fmul ν hr (isFinite_of_mag_le (by decide) (mag_scale_le κ)) hb
        (abs_value_le_of_mag (mag_scale_le κ)) ?_)
      rw [mul_div_assoc', div_le_iff₀ (by positivity), ← pow_add, ← pow_add]
      exact pow_le_pow_right₀ one_le_two (by decide)
    · have hz : isZero p = false := by
        by_contra hz
        exact h0 (value_of_zero (Bool.not_eq_false _ ▸ hz)).ge
      have hs : sign p = true := by
        by_contra hs
        rw [Bool.not_eq_true] at hs
        refine h0 ?_
        rw [value_eq_signed, hs]
        exact div_nonneg (Nat.cast_nonneg _) (by positivity)
      exact .inl (hnan (fsqrt_negative hz hs))

/-- The decibels of a finite positive magnitude are finite (R292). -/
theorem decibels_finite (ν : Word) {m : Word} (hf : isFinite m = true) (hpos : fgt m zero = true) :
    isFinite (decibels ν m) = true := by
  have hkey : 0 < key m := (fgt_iff (isNaN_of_isFinite hf) (by decide)).1 hpos
  have hs : sign m = false := by
    by_contra hs
    simp only [key, Bool.not_eq_false] at hkey hs
    rw [if_pos hs] at hkey
    omega
  have hz : isZero m = false := by
    by_contra hz
    simp only [key, isZero, Bool.not_eq_false, beq_iff_eq, hs, Bool.false_eq_true, if_false] at hkey hz
    omega
  have hl := mag_log10_le hf hs hz
  have h20 : mag twenty ≤ 131 * 2 ^ 23 + 2 ^ 23 := by decide
  refine isFinite_fmul ν (by decide) (isFinite_of_mag_le (by decide) hl) (abs_value_le_of_mag h20)
    (abs_value_le_of_mag hl) ?_
  rw [div_mul_div_comm, div_le_iff₀ (by positivity), ← pow_add, ← pow_add, ← pow_add]
  exact pow_le_pow_right₀ one_le_two (by decide)

/-- A bin is the floor, or the decibels of a positive magnitude that are not below it (R292). -/
theorem magDb_cases (κ : Config) (ν floor : Word) (x : Cpx) :
    magDb κ ν floor x = floor
      ∨ (magDb κ ν floor x = decibels ν (binMagnitude κ ν x) ∧ isNaN (binMagnitude κ ν x) = false
        ∧ fgt (binMagnitude κ ν x) zero = true ∧ isNaN (decibels ν (binMagnitude κ ν x)) = false
        ∧ flt (decibels ν (binMagnitude κ ν x)) floor = false) := by
  rw [magDb_eq]
  split_ifs with h1 h2
  · exact .inl rfl
  · exact .inl rfl
  · simp only [Bool.or_eq_true, Bool.not_eq_true', not_or, Bool.not_eq_true, Bool.not_eq_false] at h1 h2
    exact .inr ⟨rfl, h1.1, h1.2, h2.1, h2.2⟩

/-- A bin is a number not below a finite floor (R294). -/
theorem magDb_floor (κ : Config) (ν : Word) {floor : Word} (hf : isFinite floor = true) (x : Cpx) :
    isNaN (magDb κ ν floor x) = false ∧ fle floor (magDb κ ν floor x) = true := by
  have hn := isNaN_of_isFinite hf
  obtain h | ⟨h, -, -, hl, hlt⟩ := magDb_cases κ ν floor x <;> rw [h]
  · exact ⟨hn, (fle_iff hn hn).2 le_rfl⟩
  · refine ⟨hl, (fle_iff hn hl).2 (not_lt.1 fun hk => ?_)⟩
    rw [(flt_iff hl hn).2 hk] at hlt
    exact Bool.false_ne_true hlt.symm

/-- A bin is finite when its squared magnitude does not overflow (R294). -/
theorem magDb_finite (κ : Config) (ν : Word) {floor : Word} (hf : isFinite floor = true) {x : Cpx}
    (hp : isInf (fadd ν (fmul ν x.re x.re) (fmul ν x.im x.im)) = false) : isFinite (magDb κ ν floor x) = true := by
  obtain h | ⟨h, hm, hpos, -, -⟩ := magDb_cases κ ν floor x <;> rw [h]
  · exact hf
  · obtain hn | hfin := binMagnitude_finite κ ν hp
    · exact absurd (hm.symm.trans hn) Bool.false_ne_true
    · exact decibels_finite ν hfin hpos

/-! ### XFORM -/

/-- The state XFORM leaves (R285). -/
def State.transformed (s : State) (c : Channel) : State :=
  (s.setChan c { s.chan c with
    db := Memory.writeFrom (s.chan c).db 0 (spectrum s.config (s.nan 0) s.settings.aFloor (s.chan c).roll)
    newAudio := false, dbValid := true }).answered .ok 0#32

theorem execXform_next {s : State} {c : Channel} (hp : s.prepared = true) (ha : s.settings.sAnen = 1#1)
    (hn : (s.chan c).newAudio = true) : execXform c.code s = .next (s.transformed c) := by
  simp only [execXform, withChannel_code, withAnalyzer_on hp ha, require_of hn]
  rfl

/-- Bin `n` after XFORM is that of output `n` of the transform (R285, R292). -/
theorem State.peek_transformed (s : State) (c : Channel) {n : Nat} (hn : n < s.config.nBin) :
    ∃ x, (transform s.config (s.nan 0) (List.zipWith (fmul (s.nan 0)) (s.chan c).roll s.config.win))[n]? = some x
      ∧ (s.transformed c).peek .db c n = some (magDb s.config (s.nan 0) s.settings.aFloor x) := by
  obtain ⟨x, hx, hd⟩ := getElem?_spectrum s.config (s.nan 0) s.settings.aFloor (s.chan c).roll hn
  refine ⟨x, hx, ?_⟩
  have hlen : n < (spectrum s.config (s.nan 0) s.settings.aFloor (s.chan c).roll).length := by rwa [length_spectrum]
  have hread := Memory.read_writeFrom_inside (s.chan c).db 0 hlen
  rw [Nat.zero_add, hd] at hread
  simp only [State.peek, State.memory, State.transformed, State.chan_answered, State.chan_setChan_self]
  exact hread

/-- Settles O38: each bin is the clamped decibel value of its output of the transform. -/
theorem binsAreNotBelowTheFloor : Obligations.BinsAreNotBelowTheFloor := by
  intro s c hp ha hn hf ν
  refine ⟨s.transformed c, execXform_next hp ha hn, fun n hlt => ?_⟩
  obtain ⟨x, hx, hd⟩ := s.peek_transformed c hlt
  obtain ⟨hnan, hle⟩ := magDb_floor s.config ν hf x
  exact ⟨_, x, hd, hnan, hle, hx, magDb_finite s.config ν hf⟩

end Sys2Proof.Machine
end

section
/-! The commit handshake: every step keeps its invariant, and with no commit pending the posted configuration is
active. -/

namespace Sys2Proof.Machine

/-! ### One handshake (R57, R64) -/

/-- The reachable combinations of a handshake's four toggles: the request, the request as the responder sees it, the
acknowledge, the acknowledge as the requester sees it. -/
def Handshake (req reqSeen ack ackSeen : Bool) : Prop :=
  (req = ackSeen → reqSeen = req ∧ ack = req) ∧ (reqSeen ≠ req → ack = reqSeen)

section Toggles

variable {req reqSeen ack ackSeen : Bool}

theorem handshake_reset : Handshake false false false false := ⟨fun _ => ⟨rfl, rfl⟩, fun h => absurd rfl h⟩

/-- The requester toggles its request on an idle handshake only. -/
theorem Handshake.request (h : Handshake req reqSeen ack ackSeen) (hidle : req = ackSeen) :
    Handshake (!req) reqSeen ack ackSeen := by
  obtain ⟨hseen, hack⟩ := h.1 hidle
  exact ⟨fun hnot => absurd (hnot.trans hidle.symm) (Bool.not_ne_self req), fun _ => hack.trans hseen.symm⟩

/-- The request reaches the responder; on an idle handshake it was there already. -/
theorem Handshake.arrive (h : Handshake req reqSeen ack ackSeen) : Handshake req req ack ackSeen :=
  ⟨fun hidle => ⟨rfl, (h.1 hidle).2⟩, fun hne => absurd rfl hne⟩

/-- The responder acknowledges the request it sees. -/
theorem Handshake.acknowledge (h : Handshake req reqSeen ack ackSeen) : Handshake req reqSeen reqSeen ackSeen :=
  ⟨fun hidle => ⟨(h.1 hidle).1, (h.1 hidle).1⟩, fun _ => rfl⟩

/-- The acknowledge of the latest request is one of a request that has arrived. -/
theorem Handshake.seen_of_acknowledged (h : Handshake req reqSeen ack ackSeen) (hack : ack = req) : reqSeen = req := by
  by_contra hne
  exact hne ((h.2 hne).symm.trans hack)

/-- The acknowledge reaches the requester. -/
theorem Handshake.complete (h : Handshake req reqSeen ack ackSeen) : Handshake req reqSeen ack ack :=
  ⟨fun hack => ⟨h.seen_of_acknowledged hack.symm, hack.symm⟩, h.2⟩

end Toggles

/-! ### The commit handshake (R57, R104) -/

/-- The commit invariant is that of its handshake, and that an adopted configuration is the posted one. -/
theorem commitInv_iff {s : State} :
    CommitInv s ↔ Handshake s.cReq s.cReqA s.cAck s.cAckC
      ∧ (s.cReqA = s.cReq → s.cAck = s.cReq → s.cfgAct = s.cfgPosted) :=
  and_assoc.symm

theorem State.commitPending_eq_false {s : State} : s.commitPending = false ↔ s.cReq = s.cAckC := by
  simp only [State.commitPending, bne_eq_false_iff_eq]

/-- With no commit pending the active configuration is the posted one (R198). -/
theorem CommitInv.cfgAct_eq {s : State} (h : CommitInv s) (hp : s.commitPending = false) : s.cfgAct = s.cfgPosted := by
  obtain ⟨hh, hcfg⟩ := commitInv_iff.1 h
  obtain ⟨hseen, hack⟩ := hh.1 (State.commitPending_eq_false.1 hp)
  exact hcfg hseen hack

theorem Answered.commitInv {s t : State} (ha : Answered s t) (h : CommitInv s) : CommitInv t := by
  obtain ⟨st, w, rfl⟩ := ha
  exact h

/-- `reset_runtime()` and power-on leave every toggle 0 and adopt the posted configuration (R336, R84). -/
theorem commitInv_of_reset {s : State} (hq : s.cReq = false) (hqa : s.cReqA = false) (ha : s.cAck = false)
    (hac : s.cAckC = false) (hcfg : s.cfgAct = s.cfgPosted) : CommitInv s := by
  rw [commitInv_iff, hq, hqa, ha, hac]
  exact ⟨handshake_reset, fun _ _ => hcfg⟩

/-- Posting the shadow configuration and toggling the request, while no commit is pending (R192). -/
theorem CommitInv.post {s : State} (h : CommitInv s) (hp : s.commitPending = false) :
    CommitInv { s with cfgPosted := s.cfgSh, cReq := !s.cReq } := by
  obtain ⟨hh, -⟩ := commitInv_iff.1 h
  have hidle := State.commitPending_eq_false.1 hp
  refine commitInv_iff.2 ⟨hh.request hidle, fun hseen _ => ?_⟩
  exact absurd (hseen.symm.trans (hh.1 hidle).1) (Bool.not_ne_self s.cReq)

/-- Adoption acknowledges the latest request and makes its configuration the active one (R194). -/
theorem CommitInv.adopt {s : State} (h : CommitInv s) : CommitInv s.adopt := by
  obtain ⟨hh, -⟩ := commitInv_iff.1 h
  obtain ⟨-, ha⟩ | ⟨-, ha⟩ := s.adopt_cases <;> rw [ha]
  · exact commitInv_iff.2 ⟨hh.acknowledge, fun _ _ => rfl⟩
  · exact h

/-- An acknowledged request was seen before it is seen again, so its configuration is the active one already (R193). -/
theorem CommitInv.synCreq {s : State} (h : CommitInv s) : CommitInv (synCreq s) := by
  obtain ⟨hh, hcfg⟩ := commitInv_iff.1 h
  exact commitInv_iff.2 ⟨hh.arrive, fun _ hack => hcfg (hh.seen_of_acknowledged hack) hack⟩

theorem CommitInv.synCack {s : State} (h : CommitInv s) : CommitInv (synCack s) := by
  obtain ⟨hh, hcfg⟩ := commitInv_iff.1 h
  exact commitInv_iff.2 ⟨hh.complete, hcfg⟩

/-! ### The commands and the events -/

/-- The CTL commands other than COMMIT and the two resets leave the posted configuration and the request alone. -/
theorem exec_ctl_keeps_request {i : Instr} {s t : State} (hp : i.port? = some .ctl) (hc : i ≠ .commit) (hr : i ≠ .reset)
    (hq : ∀ imm w, i ≠ .prepare imm w) (h : exec i s = .next t) : t.cfgPosted = s.cfgPosted ∧ t.cReq = s.cReq := by
  have hans {t : State} : Answered s t → t.cfgPosted = s.cfgPosted ∧ t.cReq = s.cReq := by
    rintro ⟨st, w, rfl⟩
    exact ⟨rfl, rfl⟩
  cases i with
  | prepare imm w => exact absurd rfl (hq imm w)
  | reset => exact absurd rfl hr
  | commit => exact absurd rfl hc
  | wrs idx w =>
    obtain h | ⟨-, rfl⟩ := execWrs_cases h
    exacts [hans h, ⟨rfl, rfl⟩]
  | rds idx => exact hans (execRds_cases h)
  | wrc idx w =>
    obtain h | ⟨k, -, rfl⟩ := execWrc_cases h
    exacts [hans h, ⟨rfl, rfl⟩]
  | rdc idx => exact hans (execRdc_cases h)
  | facpk =>
    obtain h | rfl := execFacpk_cases h
    exacts [hans h, ⟨rfl, rfl⟩]
  | faclc imm =>
    obtain h | ⟨iq, rfl⟩ := execFaclc_cases h
    exacts [hans h, ⟨rfl, rfl⟩]
  | fachc imm =>
    obtain h | ⟨iq, rfl⟩ := execFachc_cases h
    exacts [hans h, ⟨rfl, rfl⟩]
  | setcoef ch idx =>
    obtain h | ⟨c, u, -, -, -, rfl⟩ := execSetcoef_cases h
    exacts [hans h, ⟨rfl, rfl⟩]
  | cutcfg ch idx imm =>
    obtain h | ⟨c, cut, k, rfl⟩ := execCutcfg_cases h
    exacts [hans h, ⟨rfl, rfl⟩]
  | posbyp ch idx imm =>
    obtain h | ⟨c, p, rfl⟩ := execPosbyp_cases h
    exacts [hans h, ⟨rfl, rfl⟩]
  | anen imm =>
    obtain rfl := execAnen_cases h
    exact ⟨rfl, rfl⟩
  | rdcoef ch idx imm => exact hans (execRdcoef_cases h)
  | rdcfg ch imm => exact hans (execRdcfg_cases h)
  | _ => simp [Instr.port?] at hp

/-- The commands of CTL: COMMIT posts, the two resets adopt, the others stay out of the handshake. -/
theorem exec_ctl_commitInv {i : Instr} {s t : State} (hp : i.port? = some .ctl) (h : exec i s = .next t)
    (hs : CommitInv s) : CommitInv t := by
  by_cases hc : i = .commit
  · subst hc
    obtain h | ⟨hidle, rfl⟩ := execCommit_cases h
    exacts [h.commitInv hs, hs.post hidle]
  by_cases hr : i = .reset
  · subst hr
    obtain h | ⟨-, rfl⟩ := execReset_cases h
    exacts [h.commitInv hs, commitInv_of_reset rfl rfl rfl rfl rfl]
  by_cases hq : ∃ imm w, i = .prepare imm w
  · obtain ⟨imm, w, rfl⟩ := hq
    obtain h | ⟨-, -, -, rfl⟩ := execPrepare_cases h
    exacts [h.commitInv hs, commitInv_of_reset rfl rfl rfl rfl rfl]
  have hq := fun imm w hi => hq ⟨imm, w, hi⟩
  obtain ⟨hposted, hreq⟩ := exec_ctl_keeps_request hp hc hr hq h
  rw [(exec_ctlFrame hp hr hq h).2, hposted, hreq]
  exact hs

/-- The commands of AUD: BLKBEG adopts. -/
theorem exec_aud_commitInv {i : Instr} {s t : State} (hp : i.port? = some .aud) (h : exec i s = .next t)
    (hs : CommitInv s) : CommitInv t := by
  cases i with
  | blkbeg =>
    obtain h | ⟨-, -, rfl⟩ := execBlkbeg_cases h
    exacts [h.commitInv hs, hs.adopt]
  | smp ch w =>
    obtain h | ⟨c, f, -, -, -, rfl⟩ := execSmp_cases h
    exacts [h.commitInv hs, hs]
  | blkend =>
    obtain h | ⟨-, -, rfl⟩ := execBlkend_cases h
    exacts [h.commitInv hs, hs]
  | _ => simp [Instr.port?] at hp

/-- Every command keeps the commit invariant; ANA and REN have no part in the handshake (R30). -/
theorem exec_commitInv {i : Instr} {s t : State} (h : exec i s = .next t) (hs : CommitInv s) : CommitInv t := by
  match hp : i.port? with
  | none =>
    obtain rfl := eq_nop_of_port hp
    exact (execNop_cases h).commitInv hs
  | some .ctl => exact exec_ctl_commitInv hp h hs
  | some .aud => exact exec_aud_commitInv hp h hs
  | some .ana =>
    rw [exec_anaFrame hp h]
    exact hs
  | some .ren =>
    rw [(exec_renFrame hp h).2]
    exact hs

/-- Every event keeps the commit invariant. -/
theorem perform_commitInv {e : Event} {s t : State} (h : perform e s = .next t) (hs : CommitInv s) : CommitInv t := by
  cases e with
  | command p cmd w =>
    obtain ha | ⟨i, -, h⟩ := present_cases h
    exacts [ha.commitInv hs, exec_commitInv h hs]
  | synCreq => rw [eq_of_next h]; exact hs.synCreq
  | synCack => rw [eq_of_next h]; exact hs.synCack
  | synSreq c => rw [eq_of_next h]; exact hs
  | synSack c => rw [eq_of_next h]; exact hs
  | snp c =>
    rw [eq_of_next h]
    obtain ⟨-, hc⟩ | ⟨-, hc⟩ := snp_cases c s <;> rw [hc] <;> exact hs
  | powerOn => rw [eq_of_next h]; exact commitInv_of_reset rfl rfl rfl rfl rfl

/-- Settles O52: by the event taken; the handshake's toggles pass through its reachable combinations only. -/
theorem stepKeepsCommitInvariant : Obligations.StepKeepsCommitInvariant := by
  refine ⟨fun s t hs h => ?_, fun s => CommitInv.cfgAct_eq⟩
  obtain rfl | ⟨e, rest, -, h⟩ := step_cases h
  exacts [hs, perform_commitInv (s := s.accept rest) h hs]

end Sys2Proof.Machine
end

section
/-! The snapshot handshake of a channel: every step keeps its invariant, and an idle one keeps the snapshot (R64,
R105). -/

namespace Sys2Proof.Machine

/-! ### The snapshot and its toggles -/

/-- The snapshot and its handshake are the same in both states of a channel. -/
def SameSnapshot (k k' : Chan) : Prop :=
  k'.sReq = k.sReq ∧ k'.sReqA = k.sReqA ∧ k'.sAck = k.sAck ∧ k'.sAckN = k.sAckN ∧ k'.wrSnap = k.wrSnap

theorem snapInv_iff {k : Chan} : k.snapInv ↔ Handshake k.sReq k.sReqA k.sAck k.sAckN := Iff.rfl

theorem Chan.snapPending_eq_false {k : Chan} : k.snapPending = false ↔ k.sReq = k.sAckN := by
  simp only [Chan.snapPending, bne_eq_false_iff_eq]

theorem SameSnapshot.refl (k : Chan) : SameSnapshot k k := ⟨rfl, rfl, rfl, rfl, rfl⟩

theorem SameSnapshot.snapInv {k k' : Chan} (h : SameSnapshot k k') (hk : k.snapInv) : k'.snapInv := by
  obtain ⟨hq, hqa, ha, han, -⟩ := h
  rw [snapInv_iff, hq, hqa, ha, han]
  exact hk

/-- The snapshot stays and the handshake is idle. -/
theorem SameSnapshot.idle {k k' : Chan} (h : SameSnapshot k k') (hk : k.snapPending = false) :
    k'.wrSnap = k.wrSnap ∧ k'.snapPending = false := by
  obtain ⟨hq, -, -, han, hw⟩ := h
  refine ⟨hw, ?_⟩
  rwa [Chan.snapPending, hq, han]

theorem Answered.sameSnapshot {s t : State} (h : Answered s t) (c : Channel) : SameSnapshot (s.chan c) (t.chan c) := by
  obtain ⟨st, w, rfl⟩ := h
  exact .refl _

/-- What holds between a channel and itself, and between the replaced channel and its replacement, holds of either
channel. -/
theorem State.chan_setChan_rel {R : Chan → Chan → Prop} (hrefl : ∀ k, R k k) {s : State} {c d : Channel} {k : Chan}
    (hk : d = c → R (s.chan d) k) : R (s.chan d) ((s.setChan c k).chan d) := by
  rw [State.chan_setChan]
  split
  exacts [hk ‹_›, hrefl _]

theorem sameSnapshot_setChan {s : State} {c d : Channel} {k : Chan} (hk : d = c → SameSnapshot (s.chan d) k) :
    SameSnapshot (s.chan d) ((s.setChan c k).chan d) :=
  State.chan_setChan_rel SameSnapshot.refl hk

theorem Channel.code_injective : Function.Injective Channel.code := by
  intro c d
  cases c <;> cases d <;> decide

/-- FSNAP toggles the request of the channel its `ch` field names, on an idle handshake (R248). -/
theorem execFsnap_channel {ch : BitVec 4} {s t : State} (h : execFsnap ch s = .next t) :
    Answered s t ∨ ∃ c, ch = c.code ∧ (s.chan c).snapPending = false
      ∧ t = (s.setChan c { s.chan c with sReq := !(s.chan c).sReq, snapPost := true }).answered .ok 0#32 :=
  (withChannel_cases h).elim .inl fun ⟨c, hc, h⟩ =>
  (require_cases h).imp id fun ⟨hp, h⟩ => by
    refine ⟨c, ?_, by simpa using hp, eq_of_next h⟩
    obtain ⟨rfl, rfl⟩ | ⟨rfl, rfl⟩ := channelOf_eq_some hc <;> rfl

/-! ### The commands -/

/-- The commands of ANA other than FSNAP of the channel keep the snapshot and its handshake. -/
theorem exec_ana_sameSnapshot {i : Instr} {s t : State} {d : Channel} (hp : i.port? = some .ana)
    (hf : i ≠ .fsnap d.code) (h : exec i s = .next t) : SameSnapshot (s.chan d) (t.chan d) := by
  have hset {c : Channel} {k : Chan} {st : Status} {w : Word} (hk : SameSnapshot (s.chan c) k) :
      SameSnapshot (s.chan d) (((s.setChan c k).answered st w).chan d) := by
    refine sameSnapshot_setChan fun hd => ?_
    rwa [hd]
  cases i with
  | fsnap ch =>
    obtain h | ⟨c, rfl, -, rfl⟩ := execFsnap_channel h
    · exact h.sameSnapshot d
    · exact sameSnapshot_setChan fun hd => absurd (by rw [hd]) hf
  | favail ch => exact (execFavail_cases h).sameSnapshot d
  | fpopb ch =>
    obtain h | ⟨c, -, -, ⟨-, rfl⟩ | ⟨-, rfl⟩⟩ := execFpopb_cases h
    exacts [h.sameSnapshot d, hset (.refl _), hset (.refl _)]
  | frd ch =>
    obtain h | ⟨c, w, -, -, rfl⟩ := execFrd_cases h
    exacts [h.sameSnapshot d, hset (.refl _)]
  | fpope ch =>
    obtain h | ⟨c, -, -, ⟨-, rfl⟩ | ⟨-, rfl⟩⟩ := execFpope_cases h
    exacts [h.sameSnapshot d, hset (.refl _), hset (.refl _)]
  | accum ch =>
    obtain h | ⟨c, block, -, -, rfl⟩ := execAccum_cases h
    exacts [h.sameSnapshot d, hset (.refl _)]
  | xform ch =>
    obtain h | ⟨c, rfl⟩ := execXform_cases h
    exacts [h.sameSnapshot d, hset (.refl _)]
  | rdbin ch imm => exact (execRdbin_cases h).sameSnapshot d
  | map ch =>
    obtain h | ⟨c, ws, -, rfl⟩ := execMap_cases h
    exacts [h.sameSnapshot d, hset (.refl _)]
  | publish ch =>
    obtain h | ⟨c, rfl⟩ := execPublish_cases h
    exacts [h.sameSnapshot d, hset (.refl _)]
  | _ => simp [Instr.port?] at hp

/-- No command but FSNAP of the channel and the two resets touches the snapshot or its handshake: those of the other
ports by their frames (R30). -/
theorem exec_sameSnapshot {i : Instr} {s t : State} {d : Channel} (hf : i ≠ .fsnap d.code) (hr : i ≠ .reset)
    (hq : ∀ imm w, i ≠ .prepare imm w) (h : exec i s = .next t) : SameSnapshot (s.chan d) (t.chan d) := by
  match hp : i.port? with
  | none =>
    obtain rfl := eq_nop_of_port hp
    exact (execNop_cases h).sameSnapshot d
  | some .ctl =>
    rw [(exec_ctlFrame hp hr hq h).2]
    cases d <;> exact .refl _
  | some .aud =>
    rw [exec_audFrame hp h]
    cases d <;> exact .refl _
  | some .ana => exact exec_ana_sameSnapshot hp hf h
  | some .ren =>
    rw [(exec_renFrame hp h).2]
    cases d <;> exact .refl _

/-- `reset_runtime()` leaves the handshake idle (R336). -/
theorem snapInv_resetRuntime (n : Nat) (k : Chan) : (k.resetRuntime n).snapInv := handshake_reset

/-- Every command keeps the snapshot invariant of a channel. -/
theorem exec_snapInv {i : Instr} {s t : State} {d : Channel} (h : exec i s = .next t) (hs : (s.chan d).snapInv) :
    (t.chan d).snapInv := by
  by_cases hf : i = .fsnap d.code
  · subst hf
    obtain h | ⟨c, hc, hidle, rfl⟩ := execFsnap_channel h
    · exact (h.sameSnapshot d).snapInv hs
    · obtain rfl := Channel.code_injective hc
      rw [State.chan_answered, State.chan_setChan_self]
      exact Handshake.request hs (Chan.snapPending_eq_false.1 hidle)
  by_cases hr : i = .reset
  · subst hr
    obtain h | ⟨-, rfl⟩ := execReset_cases h
    · exact (h.sameSnapshot d).snapInv hs
    · rw [State.chan_answered, State.chan_resetRuntime]
      exact snapInv_resetRuntime _ _
  by_cases hq : ∃ imm w, i = .prepare imm w
  · obtain ⟨imm, w, rfl⟩ := hq
    obtain h | ⟨-, -, -, rfl⟩ := execPrepare_cases h
    · exact (h.sameSnapshot d).snapInv hs
    · rw [State.chan_answered, State.chan_resetRuntime]
      exact snapInv_resetRuntime _ _
  exact (exec_sameSnapshot hf hr (fun imm w hi => hq ⟨imm, w, hi⟩) h).snapInv hs

/-! ### The events -/

/-- Replacing a channel by one that keeps its invariant keeps it on either channel. -/
theorem snapInv_setChan {s : State} {c d : Channel} {k : Chan} (hk : (s.chan c).snapInv → k.snapInv)
    (hs : (s.chan d).snapInv) : ((s.setChan c k).chan d).snapInv := by
  refine State.chan_setChan_rel (R := fun k k' => k.snapInv → k'.snapInv) (fun _ => id) (fun hd => ?_) hs
  rwa [hd]

/-- Every event keeps the snapshot invariant of a channel (R243, R244). -/
theorem perform_snapInv {e : Event} {s t : State} {d : Channel} (h : perform e s = .next t)
    (hs : (s.chan d).snapInv) : (t.chan d).snapInv := by
  cases e with
  | command p cmd w =>
    obtain ha | ⟨i, -, h⟩ := present_cases h
    exacts [(ha.sameSnapshot d).snapInv hs, exec_snapInv h hs]
  | synCreq => rw [eq_of_next h]; exact hs
  | synCack => rw [eq_of_next h]; exact hs
  | synSreq c => rw [eq_of_next h]; exact snapInv_setChan Handshake.arrive hs
  | synSack c => rw [eq_of_next h]; exact snapInv_setChan Handshake.complete hs
  | snp c =>
    rw [eq_of_next h]
    obtain ⟨-, hc⟩ | ⟨-, hc⟩ := snp_cases c s <;> rw [hc]
    exacts [snapInv_setChan Handshake.acknowledge hs, hs]
  | powerOn =>
    rw [eq_of_next h]
    cases d <;> exact handshake_reset

/-- On an idle handshake the synchronisers move no toggle and SNP is not enabled (R105). -/
theorem perform_sameSnapshot {e : Event} {s t : State} {d : Channel} (hs : (s.chan d).snapInv)
    (hidle : (s.chan d).snapPending = false) (ho : e ≠ .powerOn) (hf : e.instr ≠ some (.fsnap d.code))
    (hr : e.instr ≠ some .reset) (hq : ∀ imm w, e.instr ≠ some (.prepare imm w)) (h : perform e s = .next t) :
    SameSnapshot (s.chan d) (t.chan d) := by
  have hreq := Chan.snapPending_eq_false.1 hidle
  obtain ⟨hseen, hack⟩ := hs.1 hreq
  cases e with
  | command p cmd w =>
    obtain ha | ⟨i, hi, h⟩ := present_cases h
    · exact ha.sameSnapshot d
    · refine exec_sameSnapshot ?_ ?_ ?_ h
      · rintro rfl
        exact hf hi
      · rintro rfl
        exact hr hi
      · rintro imm w' rfl
        exact hq imm w' hi
  | synCreq => rw [eq_of_next h]; exact .refl _
  | synCack => rw [eq_of_next h]; exact .refl _
  | synSreq c =>
    rw [eq_of_next h]
    exact sameSnapshot_setChan fun hd => hd ▸ ⟨rfl, hseen.symm, rfl, rfl, rfl⟩
  | synSack c =>
    rw [eq_of_next h]
    exact sameSnapshot_setChan fun hd => hd ▸ ⟨rfl, rfl, rfl, hack.trans hreq, rfl⟩
  | snp c =>
    rw [eq_of_next h]
    obtain ⟨hen, hc⟩ | ⟨-, hc⟩ := snp_cases c s <;> rw [hc]
    · exact sameSnapshot_setChan fun hd => absurd (hd ▸ hseen.trans hack.symm) hen
    · exact .refl _
  | powerOn => exact absurd rfl ho

/-- Settles O55: the invariant by the event taken; an idle handshake is at rest, so only a request moves it. -/
theorem snapshotIsStableWhileIdle : Obligations.SnapshotIsStableWhileIdle := by
  refine ⟨fun s t hs h c => ?_, fun s t c e hs hidle => ⟨?_, fun ho hf hr hq h => ?_⟩⟩
  · obtain rfl | ⟨e, rest, -, h⟩ := step_cases h
    exacts [hs c, perform_snapInv (s := s.accept rest) h (hs c)]
  · obtain ⟨hseen, hack⟩ := hs.1 (Chan.snapPending_eq_false.1 hidle)
    exact hseen.trans hack.symm
  · exact (perform_sameSnapshot hs hidle ho hf hr hq h).idle hidle

end Sys2Proof.Machine
end

section
/-! Before the first PREPARE nothing has been started (R371). -/

namespace Sys2Proof.Machine

/-! ### What is idle -/

/-- The part of `Idle` about one channel. -/
structure Chan.Idle (k : Chan) : Prop where
  popActive : k.popActive = false
  popValid : k.popValid = false
  wrIdx : k.wrIdx = 0#32
  wrSnap : k.wrSnap = 0#32
  rdIdx : k.rdIdx = 0#32
  newAudio : k.newAudio = false
  dbValid : k.dbValid = false
  pathReady : k.pathReady = false
  pNew : k.pNew = false
  heldValid : k.heldValid = false

/-- Nothing is started: no block is open and every channel is idle. -/
def State.Unstarted (s : State) : Prop := s.inBlock = false ∧ ∀ c, (s.chan c).Idle

theorem idle_iff {s : State} : Idle s ↔ (s.prepared = false → s.Unstarted) :=
  forall_congr' fun _ => and_congr_right fun _ => forall_congr' fun _ =>
    ⟨fun ⟨h1, h2, h3, h4, h5, h6, h7, h8, h9, h10⟩ => ⟨h1, h2, h3, h4, h5, h6, h7, h8, h9, h10⟩,
      fun ⟨h1, h2, h3, h4, h5, h6, h7, h8, h9, h10⟩ => ⟨h1, h2, h3, h4, h5, h6, h7, h8, h9, h10⟩⟩

theorem Answered.unstarted {s t : State} (ha : Answered s t) (h : s.Unstarted) : t.Unstarted := by
  obtain ⟨st, w, rfl⟩ := ha
  exact h

theorem Chan.idle_resetRuntime (n : Nat) (k : Chan) : (k.resetRuntime n).Idle :=
  ⟨rfl, rfl, rfl, rfl, rfl, rfl, rfl, rfl, rfl, rfl⟩

theorem State.unstarted_resetRuntime (s : State) : s.resetRuntime.Unstarted :=
  ⟨rfl, fun c => by rw [State.chan_resetRuntime]; exact Chan.idle_resetRuntime _ _⟩

theorem State.unstarted_initial (κ : Config) : (State.initial κ).Unstarted :=
  ⟨rfl, fun c => by rw [State.initial_chan]; exact ⟨rfl, rfl, rfl, rfl, rfl, rfl, rfl, rfl, rfl, rfl⟩⟩

/-- Replacing one channel by an idle one. -/
theorem State.Unstarted.setChan {s : State} (h : s.Unstarted) {c : Channel} {k : Chan} (hk : k.Idle) :
    (s.setChan c k).Unstarted := by
  refine ⟨h.1, fun d => ?_⟩
  rw [State.chan_setChan]
  split
  exacts [hk, h.2 d]

/-- An idle channel has no unread block (R250). -/
theorem Chan.Idle.unread {k : Chan} (h : k.Idle) : k.unread = 0#32 := by
  rw [Chan.unread, h.wrSnap, h.rdIdx, BitVec.sub_self]

/-! ### The commands -/

/-- A command of CTL that does not reset touches nothing that `Unstarted` speaks of. -/
theorem CtlFrame.unstarted {s t : State} (ht : CtlFrame s t) (h : s.Unstarted) : t.Unstarted := by
  rw [ht.2]
  refine ⟨h.1, fun c => ?_⟩
  cases c
  exacts [{ h.2 .left with }, { h.2 .right with }]

theorem exec_ctl_unstarted {i : Instr} {s t : State} (hp : i.port? = some .ctl) (h : exec i s = .next t)
    (hs : s.Unstarted) : t.Unstarted := by
  by_cases hr : i = .reset
  · subst hr
    obtain h | ⟨-, rfl⟩ := execReset_cases h
    exacts [h.unstarted hs, s.unstarted_resetRuntime]
  by_cases hq : ∃ imm w, i = .prepare imm w
  · obtain ⟨imm, w, rfl⟩ := hq
    obtain h | ⟨-, -, -, rfl⟩ := execPrepare_cases h
    exacts [h.unstarted hs, State.unstarted_resetRuntime _]
  exact (exec_ctlFrame hp hr (fun imm w hi => hq ⟨imm, w, hi⟩) h).unstarted hs

/-- Before PREPARE the commands of AUD are refused. -/
theorem exec_aud_answered {i : Instr} {s t : State} (hp : i.port? = some .aud) (h : exec i s = .next t)
    (hn : s.prepared = false) (hs : s.Unstarted) : Answered s t := by
  cases i with
  | blkbeg => exact (execBlkbeg_cases h).elim id fun ⟨hpr, _⟩ => absurd (hn.symm.trans hpr) Bool.false_ne_true
  | smp ch w => exact (execSmp_cases h).elim id fun ⟨_, _, hb, _⟩ => absurd (hs.1.symm.trans hb) Bool.false_ne_true
  | blkend => exact (execBlkend_cases h).elim id fun ⟨hb, _⟩ => absurd (hs.1.symm.trans hb) Bool.false_ne_true
  | _ => simp [Instr.port?] at hp

/-- Before PREPARE the analyzer steps are refused (R371). -/
theorem answered_of_unprepared {ch : BitVec 4} {s t : State} {body : Channel → Result}
    (h : withChannel ch s (fun c => withAnalyzer s (body c)) = .next t) (hn : s.prepared = false) : Answered s t :=
  (withChannel_cases h).elim id fun ⟨_, _, h⟩ =>
  (withAnalyzer_cases h).elim id fun ⟨hp, _⟩ => absurd (hn.symm.trans hp) Bool.false_ne_true

/-- Before PREPARE the commands of ANA are refused or report, but for FSNAP, which starts nothing. -/
theorem exec_ana_unstarted {i : Instr} {s t : State} (hp : i.port? = some .ana) (h : exec i s = .next t)
    (hn : s.prepared = false) (hs : s.Unstarted) : t.Unstarted := by
  cases i with
  | fsnap ch =>
    obtain h | ⟨c, -, rfl⟩ := execFsnap_cases h
    · exact h.unstarted hs
    · refine (Answered.intro _ _ _).unstarted (hs.setChan ?_)
      exact { hs.2 c with }
  | favail ch => exact (execFavail_cases h).unstarted hs
  | fpopb ch =>
    obtain h | ⟨c, -, hu, -⟩ := execFpopb_cases h
    exacts [h.unstarted hs, absurd (hs.2 c).unread hu]
  | frd ch =>
    obtain h | ⟨c, w, ha, -⟩ := execFrd_cases h
    exacts [h.unstarted hs, absurd ((hs.2 c).popActive.symm.trans ha) Bool.false_ne_true]
  | fpope ch =>
    obtain h | ⟨c, ha, -⟩ := execFpope_cases h
    exacts [h.unstarted hs, absurd ((hs.2 c).popActive.symm.trans ha) Bool.false_ne_true]
  | accum ch => exact (answered_of_unprepared h hn).unstarted hs
  | xform ch => exact (answered_of_unprepared h hn).unstarted hs
  | rdbin ch imm => exact (execRdbin_cases h).unstarted hs
  | map ch => exact (answered_of_unprepared h hn).unstarted hs
  | publish ch => exact (answered_of_unprepared h hn).unstarted hs
  | _ => simp [Instr.port?] at hp

/-- With no new path PTAKE is refused, and PRD only reports. -/
theorem exec_ren_answered {i : Instr} {s t : State} (hp : i.port? = some .ren) (h : exec i s = .next t)
    (hs : s.Unstarted) : Answered s t := by
  cases i with
  | ptake ch =>
    exact (withChannel_cases h).elim id fun ⟨c, _, h⟩ =>
      (require_cases h).elim id fun ⟨hnew, _⟩ => absurd ((hs.2 c).pNew.symm.trans hnew) Bool.false_ne_true
  | prd ch imm => exact execPrd_cases h
  | _ => simp [Instr.port?] at hp

/-- No command starts anything before PREPARE. -/
theorem exec_unstarted {i : Instr} {s t : State} (h : exec i s = .next t) (hn : s.prepared = false)
    (hs : s.Unstarted) : t.Unstarted := by
  match hp : i.port? with
  | none =>
    obtain rfl := eq_nop_of_port hp
    exact (execNop_cases h).unstarted hs
  | some .ctl => exact exec_ctl_unstarted hp h hs
  | some .aud => exact (exec_aud_answered hp h hn hs).unstarted hs
  | some .ana => exact exec_ana_unstarted hp h hn hs
  | some .ren => exact (exec_ren_answered hp h hs).unstarted hs

/-- No command takes `prepared` back (R49). -/
theorem exec_prepared {i : Instr} {s t : State} (h : exec i s = .next t) (hs : s.prepared = true) :
    t.prepared = true := by
  match hp : i.port? with
  | none =>
    obtain rfl := eq_nop_of_port hp
    rw [(execNop_cases h).onlyAnswer.1, hs]
  | some .aud => rw [exec_audFrame hp h, hs]
  | some .ana => rw [exec_anaFrame hp h, hs]
  | some .ren => rw [(exec_renFrame hp h).2, hs]
  | some .ctl =>
    by_cases hr : i = .reset
    · subst hr
      obtain ⟨st, w, rfl⟩ | ⟨-, rfl⟩ := execReset_cases h <;> exact hs
    by_cases hq : ∃ imm w, i = .prepare imm w
    · obtain ⟨imm, w, rfl⟩ := hq
      obtain ⟨st, w, rfl⟩ | ⟨-, -, -, rfl⟩ := execPrepare_cases h
      exacts [hs, rfl]
    rw [(exec_ctlFrame hp hr (fun imm w hi => hq ⟨imm, w, hi⟩) h).2, hs]

theorem exec_idle {i : Instr} {s t : State} (h : exec i s = .next t) (hs : Idle s) : Idle t := by
  refine idle_iff.2 fun hn => ?_
  have hn' : s.prepared = false := by
    by_contra hp
    exact Bool.false_ne_true (hn.symm.trans (exec_prepared h (Bool.eq_true_of_not_eq_false hp)))
  exact exec_unstarted h hn' (idle_iff.1 hs hn')

/-! ### The events -/

/-- Every event keeps an unprepared block idle; SNP takes the write index 0 for its snapshot. -/
theorem perform_idle {e : Event} {s t : State} (h : perform e s = .next t) (hs : Idle s) : Idle t := by
  have hset {c : Channel} {k : Chan} (hk : (s.chan c).Idle → k.Idle) : Idle (s.setChan c k) :=
    idle_iff.2 fun hn => (idle_iff.1 hs hn).setChan (hk ((idle_iff.1 hs hn).2 c))
  cases e with
  | command p cmd w =>
    obtain ⟨st, w, rfl⟩ | ⟨i, -, h⟩ := present_cases h
    exacts [hs, exec_idle h hs]
  | synCreq => rw [eq_of_next h]; exact hs
  | synCack => rw [eq_of_next h]; exact hs
  | synSreq c => rw [eq_of_next h]; exact hset fun hk => { hk with }
  | synSack c => rw [eq_of_next h]; exact hset fun hk => { hk with }
  | snp c =>
    rw [eq_of_next h]
    obtain ⟨-, hc⟩ | ⟨-, hc⟩ := snp_cases c s <;> rw [hc]
    exacts [hset fun hk => { hk with wrSnap := hk.wrIdx }, hs]
  | powerOn =>
    rw [eq_of_next h]
    exact idle_iff.2 fun _ => State.unstarted_initial s.config

/-! ### What the commands answer then -/

theorem onlyAnswer_answered (s : State) (st : Status) (w : Word) : OnlyAnswer s (s.answered st w) :=
  (Answered.intro s st w).onlyAnswer

theorem Refuses.of_exec {i : Instr} {s : State} {st : Status} (h : exec i s = .next (s.answered st 0#32)) :
    Refuses i s st := ⟨_, h, rfl, onlyAnswer_answered s st 0#32⟩

theorem require_of_not {cond : Bool} (h : cond = false) (st : Status) (s : State) (body : Result) :
    require cond st s body = .next (s.answered st 0#32) := by rw [h, require_false]

section IdleChannel

variable {s : State} {c : Channel}

theorem refuses_frd (h : (s.chan c).popActive = false) : Refuses (.frd c.code) s .seq :=
  .of_exec <| (withChannel_code c s _).trans <| require_of_not (by rw [h, Bool.false_and]) _ _ _

theorem refuses_fpope (h : (s.chan c).popActive = false) : Refuses (.fpope c.code) s .seq :=
  .of_exec <| (withChannel_code c s _).trans <| require_of_not (by rw [h, Bool.false_and, Bool.false_and]) _ _ _

theorem refuses_ptake (h : (s.chan c).pNew = false) : Refuses (.ptake c.code) s .empty :=
  .of_exec <| (withChannel_code c s _).trans <| require_of_not h _ _ _

/-- PRD bounds the column by the held path only when a path is held (R313). -/
theorem refuses_prd (h : (s.chan c).heldValid = false) (imm : BitVec 16) : Refuses (.prd c.code imm) s .empty :=
  .of_exec <| (withChannel_code c s _).trans <|
    (require_of (by rw [h, Bool.not_false, Bool.true_or]) _ _ _).trans <| require_of_not h _ _ _

theorem refuses_rdbin (h : (s.chan c).dbValid = false) {imm : BitVec 16} (hn : imm.toNat ≤ s.config.nBin - 1) :
    Refuses (.rdbin c.code imm) s .empty :=
  .of_exec <| (withChannel_code c s _).trans <|
    (require_of (decide_eq_true hn) _ _ _).trans <| require_of_not h _ _ _

/-- FAVAIL on an idle handshake with no unread block (R250). -/
theorem execFavail_unread_zero (hidle : (s.chan c).snapPending = false) (hu : (s.chan c).unread = 0#32) :
    execFavail c.code s = .next (s.answered .ok 0#32) := by
  simp only [execFavail, withChannel_code, hidle, Bool.not_false, require_true, hu, BitVec.toNat_zero, Nat.zero_le,
    if_true, doneWith_eq]

end IdleChannel

/-- Settles O51: an unprepared block starts nothing by any event, and what is not started cannot be read. -/
theorem nothingStartsBeforePrepare : Obligations.NothingStartsBeforePrepare := by
  refine ⟨fun s t hs h => ?_, fun s c imm hs hn => ?_⟩
  · obtain rfl | ⟨e, rest, -, h⟩ := step_cases h
    exacts [hs, perform_idle (s := s.accept rest) h hs]
  · have hk := (idle_iff.1 hs hn).2 c
    refine ⟨refuses_frd hk.popActive, refuses_fpope hk.popActive, refuses_ptake hk.pNew, refuses_prd hk.heldValid imm,
      refuses_rdbin hk.dbValid, fun hidle => ?_⟩
    exact ⟨_, execFavail_unread_zero (Chan.snapPending_eq_false.2 hidle) hk.unread, rfl, onlyAnswer_answered s _ _⟩

end Sys2Proof.Machine
end

section
/-! Reading back: RDS, RDCOEF and RDCFG answer what the state holds, bit by bit of a packed word. -/

namespace Sys2Proof.Machine

/-! ### Numbers read off lists of bits (R10) -/

/-- The least significant bit of a list is the first. -/
theorem testBit_ofBits (bs : List Bool) (n : Nat) : (ofBits bs).testBit n = bs.getD n false := by
  induction bs generalizing n with
  | nil => simp [ofBits]
  | cons b bs ih =>
    cases n with
    | zero => cases b <;> simp [ofBits, Nat.testBit_zero]
    | succ n =>
      have hhalf : (b.toNat + 2 * ofBits bs) / 2 = ofBits bs := by
        cases b <;> simp
        omega
      rw [ofBits, Nat.testBit_succ, hhalf, ih, List.getD_cons_succ]

theorem ofBits_append (as bs : List Bool) : ofBits (as ++ bs) = ofBits as + 2 ^ as.length * ofBits bs := by
  induction as with
  | nil => simp [ofBits]
  | cons a as ih =>
    rw [List.cons_append, ofBits, ofBits, ih, List.length_cons, pow_succ]
    ring

/-- Bit `n` of a word packed from a list of at most 32 bits. -/
theorem getLsbD_packedBits {bs : List Bool} (h : bs.length ≤ 32) (n : Nat) :
    (BitVec.ofNat 32 (ofBits bs)).getLsbD n = bs.getD n false := by
  rw [BitVec.getLsbD_ofNat, testBit_ofBits]
  by_cases hn : n < 32
  · simp [hn]
  · rw [List.getD_eq_default _ _ (by omega), Bool.and_false]

/-- An entry of the vector that a list of bits begins with. -/
theorem getD_toList_append {n : Nat} (v : Vector Bool n) (bs : List Bool) (i : Fin n) :
    (v.toList ++ bs).getD i.val false = v.get i := by
  have hi : i.val < v.toList.length := by simp
  rw [List.getD_append _ _ _ _ hi, List.getD_eq_getElem _ _ hi, Vector.get_eq_getElem, Vector.getElem_toList]

/-- An entry past the vector that a list of bits begins with. -/
theorem getD_toList_append_add {n : Nat} (v : Vector Bool n) (bs : List Bool) (j : Nat) :
    (v.toList ++ bs).getD (n + j) false = bs.getD j false := by
  rw [List.getD_append_right _ _ _ _ (by simp)]
  simp

/-! ### The status register (R47) -/

/-- The bits of `R_STAT`: the flags, six zeros, and CORE_ID, whose one set bit is the lowest. -/
theorem State.getLsbD_rStat (s : State) (n : Nat) :
    s.rStat.getLsbD n = (s.statBits ++ (List.replicate 6 false ++ [true])).getD n false := by
  have htail : Config.coreId * 2 ^ 24 = 2 ^ 18 * ofBits (List.replicate 6 false ++ [true]) := by decide
  have hlen : s.statBits.length = 18 := rfl
  rw [State.rStat, htail, ← hlen, ← ofBits_append]
  exact getLsbD_packedBits (by simp [State.statBits]) n

/-- Bits 23:18 of `R_STAT` are zero. -/
theorem State.rStat_zeros (s : State) : s.rStat.extractLsb' 18 6 = 0#6 := by
  refine BitVec.eq_of_getLsbD_eq fun i hi => ?_
  rw [BitVec.getLsbD_extractLsb', s.getLsbD_rStat]
  interval_cases i <;> rfl

/-- Bits 31:24 of `R_STAT` are CORE_ID. -/
theorem State.rStat_coreId (s : State) : s.rStat.extractLsb' 24 8 = 0x01#8 := by
  refine BitVec.eq_of_getLsbD_eq fun i hi => ?_
  rw [BitVec.getLsbD_extractLsb', s.getLsbD_rStat]
  interval_cases i <;> rfl

/-- Settles O12: RDS answers `readSetting`, register by register and bit by bit of `R_STAT`. -/
theorem rdsReadsRegisters : Obligations.RdsReadsRegisters := by
  intro s
  have hbit := s.getLsbD_rStat
  have hwide {n : Nat} (hn : n ≤ 32) (v : BitVec n) : (v.setWidth 32).toNat = v.toNat :=
    BitVec.toNat_setWidth_of_le hn
  refine ⟨s.readSetting, fun idx => ⟨_, rfl, rfl, onlyAnswer_answered s _ _⟩, rfl, rfl, rfl, rfl, rfl,
    hwide (by decide) _, hwide (by decide) _, hwide (by decide) _, hwide (by decide) _, rfl, hwide (by decide) _, rfl,
    rfl, rfl, hwide (by decide) _, hbit 0, hbit 1, hbit 2, hbit 3, hbit 4, hbit 5, hbit 6, hbit 7, hbit 8, hbit 9,
    hbit 10, hbit 11, hbit 12, hbit 13, hbit 14, hbit 15, hbit 16, hbit 17, s.rStat_zeros, s.rStat_coreId⟩

/-! ### The packed configuration (R56) -/

/-- The bits of the packed configuration, in the order of R56. -/
theorem Cfg.getLsbD_packed (g : Cfg) (c : Channel) (n : Nat) :
    (g.packed c).getLsbD n = ((g.chan c).sel.toList ++ ((g.chan c).lcByp.toList ++ ((g.chan c).hcByp.toList
      ++ ((g.chan c).posByp.toList ++ [g.anEn])))).getD n false := by
  rw [Cfg.packed, getLsbD_packedBits (by simp)]
  simp only [List.append_assoc]

theorem Cfg.getLsbD_packed_sel (g : Cfg) (c : Channel) (u : Fin 9) :
    (g.packed c).getLsbD u.val = (g.chan c).sel.get u := by
  rw [g.getLsbD_packed, getD_toList_append]

theorem Cfg.getLsbD_packed_lcByp (g : Cfg) (c : Channel) (i : Fin 4) :
    (g.packed c).getLsbD (9 + i.val) = (g.chan c).lcByp.get i := by
  rw [g.getLsbD_packed, getD_toList_append_add, getD_toList_append]

theorem Cfg.getLsbD_packed_hcByp (g : Cfg) (c : Channel) (i : Fin 4) :
    (g.packed c).getLsbD (13 + i.val) = (g.chan c).hcByp.get i := by
  rw [g.getLsbD_packed, show 13 + i.val = 9 + (4 + i.val) by omega]
  simp only [getD_toList_append_add, getD_toList_append]

theorem Cfg.getLsbD_packed_posByp (g : Cfg) (c : Channel) (p : Fin 3) :
    (g.packed c).getLsbD (17 + p.val) = (g.chan c).posByp.get p := by
  rw [g.getLsbD_packed, show 17 + p.val = 9 + (4 + (4 + p.val)) by omega]
  simp only [getD_toList_append_add, getD_toList_append]

/-- The analyzer bit and what lies above it. -/
theorem Cfg.getLsbD_packed_add (g : Cfg) (c : Channel) (j : Nat) :
    (g.packed c).getLsbD (20 + j) = [g.anEn].getD j false := by
  rw [g.getLsbD_packed, show 20 + j = 9 + (4 + (4 + (3 + j))) by omega]
  simp only [getD_toList_append_add]

theorem Cfg.getLsbD_packed_above (g : Cfg) (c : Channel) {n : Nat} (hn : 21 ≤ n) :
    (g.packed c).getLsbD n = false := by
  obtain ⟨j, rfl⟩ := Nat.exists_eq_add_of_le hn
  rw [show 21 + j = 20 + (j + 1) by omega, g.getLsbD_packed_add]
  rfl

/-! ### RDCOEF and RDCFG (R196, R197) -/

theorem stageOf_of_toNat {idx : BitVec 4} {u : Fin 9} (h : idx.toNat = u.val) : stageOf idx = some u := by
  rw [stageOf_of_lt (h.trans_lt u.isLt)]
  exact congrArg some (Fin.ext h)

theorem coefWordOf_val (k : Fin 5) : coefWordOf k.val = some k := dif_pos k.isLt

/-- The low three bits of an operand. -/
theorem toNat_extract_three (imm : BitVec 16) : (imm.extractLsb' 0 3).toNat = imm.toNat % 8 := by
  rw [BitVec.extractLsb'_toNat, Nat.shiftRight_zero]

/-- RDCOEF with operands that name a channel, a stage and a word of its block. -/
theorem execRdcoef_next (s : State) (c : Channel) {idx : BitVec 4} {imm : BitVec 16} {u : Fin 9} {k : Fin 5}
    (hu : idx.toNat = u.val) (hk : imm.toNat % 8 = k.val) :
    execRdcoef c.code idx imm s = .next (s.answered .ok
      (((s.chan c).bank u (((if imm.getLsbD 4 then s.cfgSh else s.cfgPosted).chan c).sel.get u)).get k)) := by
  simp only [execRdcoef, withChannel_code, withStage, stageOf_of_toNat hu, withCoefWord, toNat_extract_three, hk,
    coefWordOf_val, doneWith_eq]

theorem execRdcfg_next (s : State) (c : Channel) (imm : BitVec 16) :
    execRdcfg c.code imm s
      = .next (s.answered .ok ((if imm.getLsbD 0 then s.cfgSh else s.cfgPosted).packed c)) := by
  simp only [execRdcfg, withChannel_code, doneWith_eq]

/-- Settles O24: RDCOEF by the bank its flag selects, RDCFG field by field of R56. -/
theorem rdcoefAndRdcfgComplete : Obligations.RdcoefAndRdcfgComplete := by
  intro s c imm
  refine ⟨fun idx u k hu hk => ⟨_, execRdcoef_next s c hu hk, onlyAnswer_answered s _ _, fun hp => ?_, fun hp => ?_⟩,
    _, _, execRdcfg_next s c imm, onlyAnswer_answered s _ _, rfl, ?_⟩
  · simp only [State.answered_answer, hp, Bool.false_eq_true, if_false]
  · simp only [State.answered_answer, hp, if_true]
  · intro g
    exact ⟨g.getLsbD_packed_sel c, fun i => ⟨g.getLsbD_packed_lcByp c i, g.getLsbD_packed_hcByp c i⟩,
      g.getLsbD_packed_posByp c, g.getLsbD_packed_add c 0, fun n => g.getLsbD_packed_above c⟩

end Sys2Proof.Machine
end

section
/-! The ANA port leaves the path that REN holds alone (R110). -/

namespace Sys2Proof.Machine

/-- The held path is the same in both states of a channel: its buffer's number, its flag, its length and its words. -/
def Chan.SameHeld (k k' : Chan) : Prop :=
  k'.pHeld = k.pHeld ∧ k'.heldValid = k.heldValid ∧ k'.plen.get k.pHeld = k.plen.get k.pHeld
    ∧ ∀ x, x < 2 ^ 16 → Memory.read k'.pbuf (pathIndex k.pHeld x) = Memory.read k.pbuf (pathIndex k.pHeld x)

theorem Chan.SameHeld.refl (k : Chan) : k.SameHeld k := ⟨rfl, rfl, rfl, fun _ _ => rfl⟩

theorem Answered.sameHeld {s t : State} (h : Answered s t) (d : Channel) : (s.chan d).SameHeld (t.chan d) := by
  obtain ⟨st, w, rfl⟩ := h
  exact .refl _

/-- The words of two path buffers stand apart (R74). -/
theorem pathIndex_outside {b d : Fin 3} (hbd : b ≠ d) {x n : Nat} (hx : x < 2 ^ 16) (hn : n < 2 ^ 16) :
    ¬(pathIndex b 0 ≤ pathIndex d x ∧ pathIndex d x < pathIndex b 0 + n) := by
  have hne : b.val ≠ d.val := fun h => hbd (Fin.ext h)
  simp only [pathIndex]
  omega

/-- MAP writes the back buffer, which is not the held one (R75, R299). -/
theorem Chan.sameHeld_map {k : Chan} (hk : k.buffersDistinct) {ws : List Word} {n : BitVec 16}
    (hlen : ws.length = n.toNat) :
    k.SameHeld { k with
      pbuf := Memory.writeFrom k.pbuf (pathIndex k.pBack 0) ws, plen := k.plen.set k.pBack n, pathReady := true } := by
  obtain ⟨-, hback, -⟩ := hk
  refine ⟨rfl, rfl, ?_, fun x hx => Memory.read_writeFrom_outside _ ?_⟩
  · rw [vector_get_set, if_neg hback.symm]
  · rw [hlen]
    exact pathIndex_outside hback hx n.isLt

/-- No command of ANA touches the held path: MAP alone writes a path buffer. -/
theorem exec_ana_sameHeld {i : Instr} {s t : State} (hs : Inv s) (hp : i.port? = some .ana) (h : exec i s = .next t)
    (d : Channel) : (s.chan d).SameHeld (t.chan d) := by
  have hset {c : Channel} {k : Chan} {st : Status} {w : Word} (hk : (s.chan c).SameHeld k) :
      (s.chan d).SameHeld (((s.setChan c k).answered st w).chan d) := by
    refine State.chan_setChan_rel Chan.SameHeld.refl fun hd => ?_
    rwa [hd]
  cases i with
  | fsnap ch =>
    obtain h | ⟨c, -, rfl⟩ := execFsnap_cases h
    exacts [h.sameHeld d, hset (.refl _)]
  | favail ch => exact (execFavail_cases h).sameHeld d
  | fpopb ch =>
    obtain h | ⟨c, -, -, ⟨-, rfl⟩ | ⟨-, rfl⟩⟩ := execFpopb_cases h
    exacts [h.sameHeld d, hset (.refl _), hset (.refl _)]
  | frd ch =>
    obtain h | ⟨c, w, -, -, rfl⟩ := execFrd_cases h
    exacts [h.sameHeld d, hset (.refl _)]
  | fpope ch =>
    obtain h | ⟨c, -, -, ⟨-, rfl⟩ | ⟨-, rfl⟩⟩ := execFpope_cases h
    exacts [h.sameHeld d, hset (.refl _), hset (.refl _)]
  | accum ch =>
    obtain h | ⟨c, block, -, -, rfl⟩ := execAccum_cases h
    exacts [h.sameHeld d, hset (.refl _)]
  | xform ch =>
    obtain h | ⟨c, rfl⟩ := execXform_cases h
    exacts [h.sameHeld d, hset (.refl _)]
  | rdbin ch imm => exact (execRdbin_cases h).sameHeld d
  | map ch =>
    obtain h | ⟨c, ws, hws, rfl⟩ := execMap_cases h
    exacts [h.sameHeld d, hset (Chan.sameHeld_map (hs.buffers c) (pathWords_eq_some hws).1)]
  | publish ch =>
    obtain h | ⟨c, rfl⟩ := execPublish_cases h
    exacts [h.sameHeld d, hset (.refl _)]
  | _ => simp [Instr.port?] at hp

/-- Settles O45: command by command; MAP writes the back buffer only, PUBLISH exchanges the other two numbers. -/
theorem heldPathIsNotWritten : Obligations.HeldPathIsNotWritten :=
  fun _ _ _ hs hp h c => exec_ana_sameHeld hs hp h c

end Sys2Proof.Machine
end

section
/-! The coefficients of an open block, and the life of one commit (R104, R194). -/

namespace Sys2Proof.Machine

/-! ### The coefficients the datapath uses (R51, R104) -/

/-- The active configuration and every block it selects are the same in both states. -/
def SameActive (s t : State) : Prop := t.cfgAct = s.cfgAct ∧ ∀ c u, t.activeBlock c u = s.activeBlock c u

theorem sameActive_of_banks {s t : State} (hact : t.cfgAct = s.cfgAct)
    (hbanks : ∀ c, (t.chan c).banks = (s.chan c).banks) : SameActive s t := by
  refine ⟨hact, fun c u => ?_⟩
  rw [State.activeBlock, State.activeBlock, Chan.bank, Chan.bank, hact, hbanks c]

theorem SameActive.refl (s : State) : SameActive s s := sameActive_of_banks rfl fun _ => rfl

theorem Answered.sameActive {s t : State} (h : Answered s t) : SameActive s t := by
  obtain ⟨st, w, rfl⟩ := h
  exact .refl s

/-- Replacing a channel by one with the same banks. -/
theorem sameActive_setChan {s : State} {c : Channel} {k : Chan} (hk : k.banks = (s.chan c).banks) :
    SameActive s (s.setChan c k) := by
  refine sameActive_of_banks rfl fun d => ?_
  refine State.chan_setChan_rel (R := fun k k' => k'.banks = k.banks) (fun _ => rfl) fun hd => ?_
  rw [hk, hd]

/-- A command that replaces a channel by one with the same banks. -/
theorem sameActive_setChan_answered {s : State} {c : Channel} {k : Chan} {st : Status} {w : Word}
    (hk : k.banks = (s.chan c).banks) : SameActive s ((s.setChan c k).answered st w) := sameActive_setChan hk

/-- With no commit pending, SETCOEF writes a bank that the active configuration does not select (R104, R186). -/
theorem sameActive_setBank {s : State} (hs : CommitInv s) (hp : s.commitPending = false) (c : Channel) (u : Fin 9)
    (v : Coef) : SameActive s (s.setChan c ((s.chan c).setBank u (s.freeBank c u) v)) := by
  refine ⟨rfl, fun d w => ?_⟩
  simp only [State.activeBlock]
  refine State.chan_setChan_rel
    (R := fun k k' => k'.bank w ((s.cfgAct.chan d).sel.get w) = k.bank w ((s.cfgAct.chan d).sel.get w))
    (fun _ => rfl) fun hd => ?_
  subst hd
  refine Chan.bank_setBank_ne _ _ fun ⟨hw, hb⟩ => ?_
  rw [hw, State.freeBank, hs.cfgAct_eq hp] at hb
  exact Bool.not_ne_self _ hb.symm

/-- CTL's two resets are refused while a block is open; SETCOEF alone writes a bank (R333, R186). -/
theorem exec_ctl_sameActive {i : Instr} {s t : State} (hp : i.port? = some .ctl) (h : exec i s = .next t)
    (hs : CommitInv s) (hb : s.inBlock = true) : SameActive s t := by
  have hopen : s.quiescent ≠ true := by simp [State.quiescent, hb]
  cases i with
  | prepare imm w =>
    obtain h | ⟨-, hq, -⟩ := execPrepare_cases h
    exacts [h.sameActive, absurd hq hopen]
  | reset =>
    obtain h | ⟨hq, -⟩ := execReset_cases h
    exacts [h.sameActive, absurd hq hopen]
  | setcoef ch idx =>
    obtain h | ⟨c, u, -, -, hidle, rfl⟩ := execSetcoef_cases h
    exacts [h.sameActive, sameActive_setBank hs hidle c u s.cst]
  | wrs idx w =>
    obtain h | ⟨-, rfl⟩ := execWrs_cases h
    exacts [h.sameActive, .refl s]
  | rds idx => exact (execRds_cases h).sameActive
  | wrc idx w =>
    obtain h | ⟨k, -, rfl⟩ := execWrc_cases h
    exacts [h.sameActive, .refl s]
  | rdc idx => exact (execRdc_cases h).sameActive
  | facpk =>
    obtain h | rfl := execFacpk_cases h
    exacts [h.sameActive, .refl s]
  | faclc imm =>
    obtain h | ⟨iq, rfl⟩ := execFaclc_cases h
    exacts [h.sameActive, .refl s]
  | fachc imm =>
    obtain h | ⟨iq, rfl⟩ := execFachc_cases h
    exacts [h.sameActive, .refl s]
  | cutcfg ch idx imm =>
    obtain h | ⟨c, cut, k, rfl⟩ := execCutcfg_cases h
    exacts [h.sameActive, .refl s]
  | posbyp ch idx imm =>
    obtain h | ⟨c, p, rfl⟩ := execPosbyp_cases h
    exacts [h.sameActive, .refl s]
  | anen imm =>
    obtain rfl := execAnen_cases h
    exact .refl s
  | commit =>
    obtain h | ⟨-, rfl⟩ := execCommit_cases h
    exacts [h.sameActive, .refl s]
  | rdcoef ch idx imm => exact (execRdcoef_cases h).sameActive
  | rdcfg ch imm => exact (execRdcfg_cases h).sameActive
  | _ => simp [Instr.port?] at hp

/-- AUD adopts a configuration at BLKBEG only, which an open block refuses (R194, R214). -/
theorem exec_aud_sameActive {i : Instr} {s t : State} (hp : i.port? = some .aud) (h : exec i s = .next t)
    (hb : s.inBlock = true) : SameActive s t := by
  cases i with
  | blkbeg =>
    obtain h | ⟨-, hclosed, -⟩ := execBlkbeg_cases h
    exacts [h.sameActive, absurd (hclosed.symm.trans hb) Bool.false_ne_true]
  | smp ch w =>
    obtain h | ⟨c, f, -, -, -, rfl⟩ := execSmp_cases h
    exacts [h.sameActive, sameActive_setChan_answered rfl]
  | blkend =>
    obtain h | ⟨-, -, rfl⟩ := execBlkend_cases h
    · exact h.sameActive
    · refine sameActive_of_banks rfl fun c => ?_
      rw [State.chan_answered, State.chan]
      cases s.pushEn with
      | false => rfl
      | true => rw [if_pos rfl, Pair.get_map]; rfl
  | _ => simp [Instr.port?] at hp

/-- No command changes the coefficients of an open block; ANA and REN write neither configuration nor bank (R30). -/
theorem exec_sameActive {i : Instr} {s t : State} (h : exec i s = .next t) (hs : CommitInv s)
    (hb : s.inBlock = true) : SameActive s t := by
  match hp : i.port? with
  | none =>
    obtain rfl := eq_nop_of_port hp
    exact (execNop_cases h).sameActive
  | some .ctl => exact exec_ctl_sameActive hp h hs hb
  | some .aud => exact exec_aud_sameActive hp h hb
  | some .ana =>
    rw [exec_anaFrame hp h]
    exact sameActive_of_banks rfl fun c => by cases c <;> rfl
  | some .ren =>
    rw [(exec_renFrame hp h).2]
    exact sameActive_of_banks rfl fun c => by cases c <;> rfl

/-- No event but a power-on changes the coefficients of an open block; the synchronisers and SNP move toggles and the
snapshot only (R193, R243, R244). -/
theorem perform_sameActive {e : Event} {s t : State} (hs : CommitInv s) (hb : s.inBlock = true) (ho : e ≠ .powerOn)
    (h : perform e s = .next t) : SameActive s t := by
  cases e with
  | command p cmd w =>
    obtain ha | ⟨i, -, h⟩ := present_cases h
    exacts [ha.sameActive, exec_sameActive h hs hb]
  | synCreq => rw [eq_of_next h]; exact .refl s
  | synCack => rw [eq_of_next h]; exact .refl s
  | synSreq c => rw [eq_of_next h]; exact sameActive_setChan rfl
  | synSack c => rw [eq_of_next h]; exact sameActive_setChan rfl
  | snp c =>
    rw [eq_of_next h]
    obtain ⟨-, hc⟩ | ⟨-, hc⟩ := snp_cases c s <;> rw [hc]
    exacts [sameActive_setChan rfl, .refl s]
  | powerOn => exact absurd rfl ho

/-- Settles O53: an open block refuses BLKBEG and the resets, and SETCOEF writes a bank that is not in use. -/
theorem activeCoefficientsAreStable : Obligations.ActiveCoefficientsAreStable :=
  fun _ _ _ hs hb ho h => perform_sameActive hs hb ho h

/-! ### The life of one commit (R192 to R194) -/

/-- COMMIT while none is pending posts the shadow configuration (R192). -/
theorem execCommit_next {s : State} (hp : s.commitPending = false) :
    execCommit s = .next (({ s with cfgPosted := s.cfgSh, cReq := !s.cReq } : State).answered .ok 0#32) := by
  rw [execCommit, hp]
  rfl

/-- The state in which BLKBEG opens a block (R214). -/
def State.opened (s : State) : State :=
  { s.adopt with
    inBlock := true
    pushEn := s.adopt.cfgAct.anEn
    chans := s.adopt.chans.map fun k => { k with smpCnt := 0#16 } }

/-- BLKBEG on a prepared block with no block open (R214). -/
theorem execBlkbeg_next {s : State} (hp : s.prepared = true) (hb : s.inBlock = false) :
    execBlkbeg s = .next (s.opened.answered .ok 0#32) := by
  rw [execBlkbeg, hp, hb]
  rfl

/-- A request that AUD has seen and not acknowledged is adopted (R194). -/
theorem State.adopt_of_seen {s : State} (h : s.cReqA ≠ s.cAck) :
    s.adopt = { s with cfgAct := s.cfgPosted, cAck := s.cReqA } := by
  obtain ⟨-, ha⟩ | ⟨hseen, -⟩ := s.adopt_cases
  exacts [ha, absurd hseen h]

/-- Settles O54: the request is seen and not acknowledged when the block begins, so it is adopted there. -/
theorem commitReachesTheDatapath : Obligations.CommitReachesTheDatapath := by
  intro s hs hidle hp hb
  let a := ({ s with cfgPosted := s.cfgSh, cReq := !s.cReq } : State).answered .ok 0#32
  have hack : s.cAck = s.cReq := ((commitInv_iff.1 hs).1.1 hidle).2
  have hseen : (synCreq a).cReqA ≠ (synCreq a).cAck := fun h => Bool.not_ne_self s.cReq (h.trans hack)
  have hadopt := State.adopt_of_seen hseen
  have hpending : ((!s.cReq) != s.cAckC) = true := by rw [← hidle, bne_iff_ne]; exact Bool.not_ne_self _
  refine ⟨a, _, execCommit_next (State.commitPending_eq_false.2 hidle), rfl, hpending,
    execBlkbeg_next (s := synCreq a) hp hb, ?_, ?_, ?_, ?_⟩
  · rw [State.answered_cfgAct, State.opened, hadopt]
    rfl
  · rw [State.opened, hadopt]
    exact hpending
  · rw [State.opened, hadopt]
    exact State.commitPending_eq_false.2 rfl
  · rw [State.opened, hadopt]
    rfl

end Sys2Proof.Machine
end

section
/-! A pending snapshot completes by the synchronisers and the responder (R98, R255). -/

namespace Sys2Proof.Machine

/-- Settles O56: the request arrives, is acknowledged now or was before, and the acknowledge arrives. -/
theorem snapshotCompletes : Obligations.SnapshotCompletes := by
  intro s c _
  let a := synSreq c s
  let b := snp c a
  have ha : a.chan c = { s.chan c with sReqA := (s.chan c).sReq } := State.chan_setChan_self _ _ _
  have ht : (synSack c b).chan c = { b.chan c with sAckN := (b.chan c).sAck } := State.chan_setChan_self _ _ _
  refine ⟨a, b, synSack c b, rfl, rfl, rfl, ?_⟩
  rw [Chan.snapPending_eq_false, ht]
  obtain ⟨hne, hb⟩ | ⟨hack, hb⟩ := snp_cases c a
  · have hb : b.chan c = { a.chan c with wrSnap := (a.chan c).wrIdx, sAck := (a.chan c).sReqA } := by
      rw [show b = _ from hb, State.chan_setChan_self]
    rw [ha] at hne hb
    rw [hb]
    exact ⟨rfl, fun _ => rfl, fun hack => absurd hack.symm hne⟩
  · rw [ha] at hack
    rw [show b = a from hb, ha]
    exact ⟨hack, fun hne => absurd hack.symm hne, fun _ => rfl⟩

end Sys2Proof.Machine
end

section
/-! No torn read (R106): a pop that FPOPE validates holds the words its slot had when the pop was opened. -/

namespace Sys2Proof.Machine

/-! ### The slots of the ring (R13, R60) -/

/-- Blocks fewer than a ring apart lie in different slots, also when an index has wrapped, since the ring's size divides
2^32. -/
theorem slotIndex_ne {κ : Config} (hκ : LegalConfig κ) {w r : Word} (hpos : 1 ≤ (w - r).toNat)
    (hlt : (w - r).toNat < κ.fifoCap) {i j : Nat} (hi : i < κ.blkMax) (hj : j < κ.blkMax) :
    slotIndex κ r j ≠ slotIndex κ w i := by
  intro heq
  have hslot : r.toNat % κ.fifoCap = w.toNat % κ.fifoCap := by
    have hdiv := congrArg (· / κ.blkMax) heq
    have hblk : 0 < κ.blkMax := Nat.zero_lt_of_lt hi
    have hquot (a : Nat) {x : Nat} (hx : x < κ.blkMax) : (a * κ.blkMax + x) / κ.blkMax = a := by
      rw [Nat.add_comm, Nat.add_mul_div_right _ _ hblk, Nat.div_eq_of_lt hx, Nat.zero_add]
    simpa only [slotIndex, hquot _ hi, hquot _ hj] using hdiv
  have hdvd : κ.fifoCap ∣ 2 ^ 32 := Nat.pow_dvd_pow 2 (hκ.fifo_size.2.trans (by decide))
  have hsum : r.toNat + (w - r).toNat ≡ w.toNat [MOD 2 ^ 32] := by
    unfold Nat.ModEq
    bv_omega
  have hzero : (w - r).toNat ≡ 0 [MOD κ.fifoCap] := Nat.ModEq.add_left_cancel hslot (hsum.of_dvd hdvd)
  have := Nat.le_of_dvd hpos ((Nat.modEq_zero_iff_dvd).1 hzero)
  omega

/-! ### An open pop -/

/-- The words read so far are those of the block, `word`. -/
def Chan.HasRead (k : Chan) (word : Nat → Option Word) : Prop :=
  ∀ i, i < k.popCnt.toNat → Memory.read k.popBuf i = word i

/-- The invariant of an open pop of block `r`, whose `blk` words were `word` when the pop was opened. The producer is at
least one block ahead, and at most `n`, so that counting blocks modulo 2^32 is counting them. While it is less than a
ring ahead, it has overwritten nothing of the block, and what was read is sound. Once it is further ahead, what was
read may be torn; but a snapshot asked for since the last read shows that. -/
structure Chan.Popping (κ : Config) (blk : Nat) (r : Word) (word : Nat → Option Word) (n : Nat) (k : Chan) : Prop where
  rdIdx : k.rdIdx = r
  snap : k.snapInv
  ahead : 1 ≤ (k.wrIdx - r).toNat ∧ (k.wrIdx - r).toNat ≤ n
  intact : (k.wrIdx - r).toNat < κ.fifoCap → ∀ i, i < blk → Memory.read k.slot (slotIndex κ r i) = word i
  sound : (k.wrIdx - r).toNat < κ.fifoCap → k.HasRead word
  certified : k.snapPost = true → k.sAck = k.sReq → (k.wrSnap - r).toNat < κ.fifoCap → k.HasRead word

section Popping

variable {κ : Config} {blk n : Nat} {r : Word} {word : Nat → Option Word} {k : Chan}

theorem Chan.Popping.mono (h : k.Popping κ blk r word n) : k.Popping κ blk r word (n + 1) :=
  { h with ahead := ⟨h.ahead.1, Nat.le_succ_of_le h.ahead.2⟩ }

/-- A pop with no word read yet, on an unread block that a snapshot has shown not to be overrun. -/
theorem Chan.Popping.start (hκ : LegalConfig κ) (hs : k.snapInv) (hcnt : k.popCnt = 0#16)
    (hpos : 1 ≤ (k.wrSnap - k.rdIdx).toNat) (hle : (k.wrSnap - k.rdIdx).toNat ≤ κ.fifoCap - 1)
    (hwr : (k.wrIdx - k.wrSnap).toNat < 2 ^ 30) :
    k.Popping κ blk k.rdIdx (fun i => Memory.read k.slot (slotIndex κ k.rdIdx i)) (2 ^ 30 + 2 ^ 15) := by
  have hcap := hκ.fifoCap_bounds.2
  have hnone : k.HasRead fun i => Memory.read k.slot (slotIndex κ k.rdIdx i) := fun i hi => by
    rw [hcnt] at hi
    exact absurd hi (Nat.not_lt_zero i)
  exact
    { rdIdx := rfl
      snap := hs
      ahead := by
        have hadd : (k.wrIdx - k.rdIdx).toNat = (k.wrSnap - k.rdIdx).toNat + (k.wrIdx - k.wrSnap).toNat := by bv_omega
        omega
      intact := fun _ _ _ => rfl
      sound := fun _ => hnone
      certified := fun _ _ _ => hnone }

/-- A sample goes to the slot of the write index, which is not the one being read (R216, R219). -/
theorem Chan.Popping.smp (h : k.Popping κ blk r word n) (hκ : LegalConfig κ) (hblk : blk ≤ κ.blkMax)
    (hcnt : k.smpCnt.toNat < blk) (z1 z2 : Vector Word 9) (push : Bool) (v : Word) :
    ({ k with z1 := z1, z2 := z2, slot := k.tap κ push v, smpCnt := k.smpCnt + 1#16 } : Chan).Popping κ blk r word n := by
  refine { h with intact := fun hlt i hi => ?_ }
  simp only [Chan.tap]
  split
  · rw [Memory.read_write_ne _ _ (slotIndex_ne hκ h.ahead.1 hlt (hcnt.trans_le hblk) (hi.trans_le hblk))]
    exact h.intact hlt i hi
  · exact h.intact hlt i hi

/-- A block published puts the producer one block further ahead (R220). -/
theorem Chan.Popping.publish (h : k.Popping κ blk r word n) (hn : n + 1 < 2 ^ 32) :
    ({ k with wrIdx := k.wrIdx + 1#32 } : Chan).Popping κ blk r word (n + 1) := by
  obtain ⟨hpos, hle⟩ := h.ahead
  have hsucc : (k.wrIdx + 1#32 - r).toNat = (k.wrIdx - r).toNat + 1 := by bv_omega
  have hahead : 1 ≤ (k.wrIdx + 1#32 - r).toNat ∧ (k.wrIdx + 1#32 - r).toNat ≤ n + 1 := by omega
  have hbefore (hlt : (k.wrIdx + 1#32 - r).toNat < κ.fifoCap) : (k.wrIdx - r).toNat < κ.fifoCap := by omega
  exact { h with
    ahead := hahead
    intact := fun hlt => h.intact (hbefore hlt)
    sound := fun hlt => h.sound (hbefore hlt) }

/-- A word read from the block (R252). -/
theorem Chan.Popping.frd (h : k.Popping κ blk r word n) (hcnt : k.popCnt.toNat < blk) (hblk : blk < 2 ^ 16) {w : Word}
    (hw : Memory.read k.slot (slotIndex κ k.rdIdx k.popCnt.toNat) = some w) :
    ({ k with
      popBuf := Memory.write k.popBuf k.popCnt.toNat w, popCnt := k.popCnt + 1#16, snapPost := false } : Chan).Popping
        κ blk r word n := by
  have hsucc : (k.popCnt + 1#16).toNat = k.popCnt.toNat + 1 := by bv_omega
  refine { h with sound := fun hlt i hi => ?_, certified := fun hpost => absurd hpost Bool.false_ne_true }
  rw [h.rdIdx, h.intact hlt _ hcnt] at hw
  obtain rfl | hne := eq_or_ne i k.popCnt.toNat
  · rw [Memory.read_write_self, hw]
  · rw [Memory.read_write_ne _ _ hne]
    have : i < k.popCnt.toNat + 1 := hsucc ▸ hi
    exact h.sound hlt i (by omega)

/-- A snapshot asked for on an idle handshake is not acknowledged yet (R248). -/
theorem Chan.Popping.fsnap (h : k.Popping κ blk r word n) (hidle : k.snapPending = false) :
    ({ k with sReq := !k.sReq, snapPost := true } : Chan).Popping κ blk r word n := by
  have hidle := Chan.snapPending_eq_false.1 hidle
  have hack := (h.snap.1 hidle).2
  exact { h with
    snap := Handshake.request h.snap hidle
    certified := fun _ hnew => absurd (hnew.symm.trans hack) (Bool.not_ne_self _) }

theorem Chan.Popping.synSreq (h : k.Popping κ blk r word n) :
    ({ k with sReqA := k.sReq } : Chan).Popping κ blk r word n :=
  { h with snap := Handshake.arrive h.snap }

theorem Chan.Popping.synSack (h : k.Popping κ blk r word n) :
    ({ k with sAckN := k.sAck } : Chan).Popping κ blk r word n :=
  { h with snap := Handshake.complete h.snap }

/-- A snapshot of less than a ring is taken while what was read is sound (R244). -/
theorem Chan.Popping.snp (h : k.Popping κ blk r word n) :
    ({ k with wrSnap := k.wrIdx, sAck := k.sReqA } : Chan).Popping κ blk r word n :=
  { h with snap := Handshake.acknowledge h.snap, certified := fun _ _ => h.sound }

end Popping

/-! ### The commands while a pop is open -/

/-- Nothing of the run's setup changes: the events to come, the configuration and the block size. -/
def SameSetup (s t : State) : Prop := t.inputs = s.inputs ∧ t.config = s.config ∧ t.rBlk = s.rBlk

theorem Answered.sameSetup {s t : State} (h : Answered s t) : SameSetup s t := by
  obtain ⟨st, w, rfl⟩ := h
  exact ⟨rfl, rfl, rfl⟩

/-- With a pop open the two resets are refused, so that every command of CTL stays in the frame (R333). -/
theorem exec_ctlFrame_of_popActive {i : Instr} {s t : State} {c : Channel} (hp : i.port? = some .ctl)
    (h : exec i s = .next t) (ha : (s.chan c).popActive = true) : CtlFrame s t := by
  have hopen : s.quiescent ≠ true := by
    intro hq
    simp only [State.quiescent, Bool.and_eq_true, Bool.not_eq_true'] at hq
    obtain ⟨⟨-, hl⟩, hr⟩ := hq
    cases c
    exacts [absurd (hl.symm.trans ha) Bool.false_ne_true, absurd (hr.symm.trans ha) Bool.false_ne_true]
  by_cases hr : i = .reset
  · subst hr
    obtain h | ⟨hq, -⟩ := execReset_cases h
    exacts [h.ctlFrame, absurd hq hopen]
  by_cases hq : ∃ imm w, i = .prepare imm w
  · obtain ⟨imm, w, rfl⟩ := hq
    obtain h | ⟨-, hq, -⟩ := execPrepare_cases h
    exacts [h.ctlFrame, absurd hq hopen]
  exact exec_ctlFrame hp hr (fun imm w hi => hq ⟨imm, w, hi⟩) h

/-- FRD reads the next word of the block (R252). -/
theorem execFrd_reads {ch : BitVec 4} {s t : State} (h : execFrd ch s = .next t) :
    Answered s t ∨ ∃ c w, (s.chan c).popCnt.toNat < s.rBlk.toNat
      ∧ Memory.read (s.chan c).slot (slotIndex s.config (s.chan c).rdIdx (s.chan c).popCnt.toNat) = some w
      ∧ t = (s.setChan c { s.chan c with
          popBuf := Memory.write (s.chan c).popBuf (s.chan c).popCnt.toNat w
          popCnt := (s.chan c).popCnt + 1#16, snapPost := false }).answered .ok w :=
  (withChannel_cases h).elim .inl fun ⟨c, _, h⟩ =>
  (require_cases h).imp id fun ⟨hb, h⟩ =>
    have ⟨w, hw, h⟩ := withWord_eq_next h
    ⟨c, w, of_decide_eq_true (Bool.and_eq_true_iff.1 hb).2, hw, eq_of_next h⟩

/-- FPOPE that answers ST_OK: the block was read whole, and a snapshot asked for after it certifies it (R253). -/
theorem execFpope_ok {c : Channel} {s t : State} {a : Word} (h : execFpope c.code s = .next t)
    (hok : t.answer = some ⟨.ok, a⟩) :
    (s.chan c).popCnt = s.rBlk ∧ (s.chan c).snapPost = true ∧ (s.chan c).snapPending = false
      ∧ (s.chan c).unread.toNat ≤ s.config.fifoCap - 1
      ∧ t.chan c = { s.chan c with popActive := false, rdIdx := (s.chan c).rdIdx + 1#32, popValid := true } := by
  rw [execFpope, withChannel_code] at h
  obtain ⟨-, rfl⟩ | ⟨hb, h⟩ := require_eq_next h
  · simp at hok
  obtain ⟨-, rfl⟩ | ⟨hidle, h⟩ := require_eq_next h
  · simp at hok
  obtain ⟨hle, h⟩ | ⟨-, h⟩ := ite_cases h
  · simp only [Bool.and_eq_true, beq_iff_eq] at hb
    obtain ⟨⟨-, hcnt⟩, hpost⟩ := hb
    rw [eq_of_next h, State.chan_answered, State.chan_setChan_self]
    exact ⟨hcnt, hpost, by simpa using hidle, hle, rfl⟩
  · rw [eq_of_next h] at hok
    simp at hok

section OpenPop

variable {s t : State} {c : Channel} {n : Nat} {r : Word} {word : Nat → Option Word}

/-- Replacing a channel keeps the pop of channel `c` when it does so for that channel. -/
theorem popping_setChan (hs : (s.chan c).Popping s.config s.rBlk.toNat r word n) {d : Channel} {k : Chan}
    (hk : d = c → (s.chan d).Popping s.config s.rBlk.toNat r word n → k.Popping s.config s.rBlk.toNat r word n) :
    ((s.setChan d k).chan c).Popping s.config s.rBlk.toNat r word n :=
  State.chan_setChan_rel
    (R := fun k k' => k.Popping s.config s.rBlk.toNat r word n → k'.Popping s.config s.rBlk.toNat r word n)
    (fun _ => id) (fun hd => hd ▸ hk hd.symm) hs

theorem Answered.popping (h : Answered s t) (hs : (s.chan c).Popping s.config s.rBlk.toNat r word n) :
    (t.chan c).Popping s.config s.rBlk.toNat r word n := by
  obtain ⟨st, w, rfl⟩ := h
  exact hs

/-- Adoption is of the configuration alone (R194). -/
theorem State.adopt_chans (s : State) : s.adopt.chans = s.chans := by
  obtain ⟨-, ha⟩ | ⟨-, ha⟩ := s.adopt_cases <;> rw [ha]

/-- AUD moves the write index and writes other slots (R216, R220). -/
theorem exec_aud_popping {i : Instr} (hp : i.port? = some .aud) (h : exec i s = .next t) (hκ : LegalConfig s.config)
    (hblk : s.rBlk.toNat ≤ s.config.blkMax) (hn : n + 1 < 2 ^ 32)
    (hs : (s.chan c).Popping s.config s.rBlk.toNat r word n) :
    (t.chan c).Popping s.config s.rBlk.toNat r word (n + 1) := by
  cases i with
  | blkbeg =>
    obtain h | ⟨-, -, rfl⟩ := execBlkbeg_cases h
    · exact h.popping hs.mono
    · rw [State.chan_answered, State.chan, Pair.get_map, State.adopt_chans]
      exact { hs.mono with }
  | smp ch w =>
    obtain h | ⟨d, f, -, hcnt, -, rfl⟩ := execSmp_cases h
    exacts [h.popping hs.mono, popping_setChan hs.mono fun _ h => h.smp hκ hblk hcnt f.z1 f.z2 s.pushEn f.v]
  | blkend =>
    obtain h | ⟨-, -, rfl⟩ := execBlkend_cases h
    · exact h.popping hs.mono
    · rw [State.chan_answered, State.chan]
      cases s.pushEn with
      | false => exact hs.mono
      | true =>
        rw [if_pos rfl, Pair.get_map]
        exact hs.publish hn
  | _ => simp [Instr.port?] at hp

/-- ANA reads the block and asks for snapshots, as long as no command of it ends the pop (R251 to R253). -/
theorem exec_ana_popping {i : Instr} (hp : i.port? = some .ana) (h : exec i s = .next t)
    (ha : (s.chan c).popActive = true) (ha' : (t.chan c).popActive = true)
    (hs : (s.chan c).Popping s.config s.rBlk.toNat r word n) :
    (t.chan c).Popping s.config s.rBlk.toNat r word n := by
  cases i with
  | fsnap ch =>
    obtain h | ⟨d, hidle, rfl⟩ := execFsnap_cases h
    exacts [h.popping hs, popping_setChan hs fun _ h => h.fsnap hidle]
  | favail ch => exact (execFavail_cases h).popping hs
  | fpopb ch =>
    obtain h | ⟨d, hclosed, -, h⟩ := execFpopb_cases h
    · exact h.popping hs
    · have hd : d ≠ c := by
        rintro rfl
        exact absurd (hclosed.symm.trans ha) Bool.false_ne_true
      obtain ⟨-, rfl⟩ | ⟨-, rfl⟩ := h <;> exact popping_setChan hs fun h => absurd h hd
  | frd ch =>
    obtain h | ⟨d, w, hcnt, hw, rfl⟩ := execFrd_reads h
    exacts [h.popping hs, popping_setChan hs fun _ h => h.frd hcnt s.rBlk.isLt hw]
  | fpope ch =>
    obtain h | ⟨d, -, -, h⟩ := execFpope_cases h
    · exact h.popping hs
    · have hd : d ≠ c := by
        rintro rfl
        obtain ⟨-, rfl⟩ | ⟨-, rfl⟩ := h <;> simp at ha'
      obtain ⟨-, rfl⟩ | ⟨-, rfl⟩ := h <;> exact popping_setChan hs fun h => absurd h hd
  | accum ch =>
    obtain h | ⟨d, block, -, -, rfl⟩ := execAccum_cases h
    exacts [h.popping hs, popping_setChan hs fun _ h => { h with }]
  | xform ch =>
    obtain h | ⟨d, rfl⟩ := execXform_cases h
    exacts [h.popping hs, popping_setChan hs fun _ h => { h with }]
  | rdbin ch imm => exact (execRdbin_cases h).popping hs
  | map ch =>
    obtain h | ⟨d, ws, -, rfl⟩ := execMap_cases h
    exacts [h.popping hs, popping_setChan hs fun _ h => { h with }]
  | publish ch =>
    obtain h | ⟨d, rfl⟩ := execPublish_cases h
    exacts [h.popping hs, popping_setChan hs fun _ h => { h with }]
  | _ => simp [Instr.port?] at hp

/-- A command before and after which the pop is open. -/
theorem exec_popping {i : Instr} (h : exec i s = .next t) (hκ : LegalConfig s.config)
    (hblk : s.rBlk.toNat ≤ s.config.blkMax) (hn : n + 1 < 2 ^ 32) (ha : (s.chan c).popActive = true)
    (ha' : (t.chan c).popActive = true) (hs : (s.chan c).Popping s.config s.rBlk.toNat r word n) :
    SameSetup s t ∧ (t.chan c).Popping s.config s.rBlk.toNat r word (n + 1) := by
  match hp : i.port? with
  | none =>
    obtain rfl := eq_nop_of_port hp
    have h := execNop_cases h
    exact ⟨h.sameSetup, h.popping hs.mono⟩
  | some .ctl =>
    rw [(exec_ctlFrame_of_popActive hp h ha).2]
    refine ⟨⟨rfl, rfl, rfl⟩, ?_⟩
    cases c <;> exact { hs.mono with }
  | some .aud =>
    have hframe := exec_audFrame hp h
    exact ⟨by rw [hframe]; exact ⟨rfl, rfl, rfl⟩, exec_aud_popping hp h hκ hblk hn hs⟩
  | some .ana =>
    have hframe := exec_anaFrame hp h
    exact ⟨by rw [hframe]; exact ⟨rfl, rfl, rfl⟩, (exec_ana_popping hp h ha ha' hs).mono⟩
  | some .ren =>
    rw [(exec_renFrame hp h).2]
    refine ⟨⟨rfl, rfl, rfl⟩, ?_⟩
    cases c <;> exact { hs.mono with }

/-- An event before and after which the pop is open. -/
theorem perform_popping {e : Event} (h : perform e s = .next t) (hκ : LegalConfig s.config)
    (hblk : s.rBlk.toNat ≤ s.config.blkMax) (hn : n + 1 < 2 ^ 32) (ha : (s.chan c).popActive = true)
    (ha' : (t.chan c).popActive = true) (hs : (s.chan c).Popping s.config s.rBlk.toNat r word n) :
    SameSetup s t ∧ (t.chan c).Popping s.config s.rBlk.toNat r word (n + 1) := by
  cases e with
  | command p cmd w =>
    obtain h | ⟨i, -, h⟩ := present_cases h
    exacts [⟨h.sameSetup, h.popping hs.mono⟩, exec_popping h hκ hblk hn ha ha' hs]
  | synCreq => rw [eq_of_next h]; exact ⟨⟨rfl, rfl, rfl⟩, hs.mono⟩
  | synCack => rw [eq_of_next h]; exact ⟨⟨rfl, rfl, rfl⟩, hs.mono⟩
  | synSreq d => rw [eq_of_next h]; exact ⟨⟨rfl, rfl, rfl⟩, popping_setChan hs.mono fun _ h => h.synSreq⟩
  | synSack d => rw [eq_of_next h]; exact ⟨⟨rfl, rfl, rfl⟩, popping_setChan hs.mono fun _ h => h.synSack⟩
  | snp d =>
    rw [eq_of_next h]
    obtain ⟨-, hd⟩ | ⟨-, hd⟩ := snp_cases d s <;> rw [hd]
    exacts [⟨⟨rfl, rfl, rfl⟩, popping_setChan hs.mono fun _ h => h.snp⟩, ⟨⟨rfl, rfl, rfl⟩, hs.mono⟩]
  | powerOn =>
    rw [eq_of_next h] at ha'
    cases c <;> exact absurd ha' Bool.false_ne_true

end OpenPop

/-! ### The run -/

/-- A run of `n + 1` steps is a step and a run of `n`. -/
theorem steps_succ {n : Nat} {s t : State} (h : steps (n + 1) s = .next t) :
    ∃ m, step s = .next m ∧ steps n m = .next t := by
  unfold steps at h
  split at h
  exacts [⟨_, ‹_›, h⟩, (nomatch h), (nomatch h)]

/-- The events of a run during which the pop stays open keep its invariant. -/
theorem steps_popping {c : Channel} {r : Word} {word : Nat → Option Word} {es rest : List Event} {s t : State} {n : Nat}
    (hin : s.inputs = es ++ rest) (ha : ∀ j v, j ≤ es.length → steps j s = .next v → (v.chan c).popActive = true)
    (hκ : LegalConfig s.config) (hblk : s.rBlk.toNat ≤ s.config.blkMax) (hn : n + es.length < 2 ^ 32)
    (hs : (s.chan c).Popping s.config s.rBlk.toNat r word n) (h : steps es.length s = .next t) :
    (t.inputs = rest ∧ t.config = s.config ∧ t.rBlk = s.rBlk)
      ∧ (t.chan c).Popping s.config s.rBlk.toNat r word (n + es.length) := by
  induction es generalizing s n with
  | nil =>
    obtain rfl := eq_of_next h
    exact ⟨⟨hin, rfl, rfl⟩, hs⟩
  | cons e es ih =>
    obtain ⟨m, hstep, hrun⟩ := steps_succ h
    have ha₀ := ha 0 s (Nat.zero_le _) rfl
    have hafter : ∀ j v, j ≤ es.length → steps j m = .next v → (v.chan c).popActive = true := fun j v hj hv =>
      ha (j + 1) v (Nat.succ_le_succ hj) (by rw [steps, hstep]; exact hv)
    rw [step_cons hin] at hstep
    rw [List.length_cons, ← Nat.add_assoc, Nat.add_right_comm] at hn ⊢
    obtain ⟨⟨hm, hcfg, hb⟩, hm'⟩ := perform_popping (s := s.accept (es ++ rest)) hstep hκ hblk
      (Nat.lt_of_le_of_lt (Nat.le_add_right _ _) hn) ha₀ (hafter 0 m (Nat.zero_le _) rfl) hs
    rw [State.accept_config] at hcfg hm'
    rw [State.accept_rBlk] at hb hm'
    rw [← hcfg] at hκ hblk hm' ⊢
    rw [← hb] at hblk hm' ⊢
    exact ih hm hafter hκ hblk hn hm' hrun

/-- Settles O58: the snapshot that lets FPOPE answer ST_OK was asked for after the last read, and it shows the producer
less than a ring ahead, where nothing read was overwritten. -/
theorem validatedPopIsNotTorn : Obligations.ValidatedPopIsNotTorn := by
  intro c s t u es rest cmd wdata a k hin hdec ha hlen hκ hblk hsnap hcnt hpos hle hwr hrun hstep hok
  have hstart := Chan.Popping.start (blk := s.rBlk.toNat) hκ hsnap hcnt hpos hle hwr
  obtain ⟨⟨hint, hcfg, hb⟩, hpop⟩ := steps_popping hin ha hκ hblk (by omega) hstart hrun
  rw [step_cons hint] at hstep
  obtain ⟨hwhole, hpost, hidle, hunread, hu⟩ := execFpope_ok ((present_of_decode _ hdec).symm.trans hstep) hok
  rw [State.chan_accept] at hwhole hpost hidle hunread hu
  have hack : (t.chan c).sAck = (t.chan c).sReq := (hpop.snap.1 (Chan.snapPending_eq_false.1 hidle)).2
  have hcert : ((t.chan c).wrSnap - k.rdIdx).toNat < s.config.fifoCap := by
    have := hκ.fifoCap_bounds.1
    rw [Chan.unread, hpop.rdIdx, State.accept_config, hcfg] at hunread
    omega
  refine ⟨by rw [hu, ← hpop.rdIdx], by rw [hu], fun i hi => ?_⟩
  simp only [State.peek, State.memory, hu]
  refine hpop.certified hpost hack hcert i ?_
  rwa [hwhole, State.accept_rBlk, hb]

end Sys2Proof.Machine
end

section
/-! Decoding and encoding (R121 to R128): the fields of a command word, the command they name, its row in the table of
matches and masks (R132), and the round trips between words and commands. -/

namespace Sys2Proof

open Machine

/-! ### The fields of a command word (R121) -/

section Fields

variable (op op' : BitVec 8) (ch ch' idx idx' : BitVec 4) (imm imm' : BitVec 16)

theorem getLsbD_mkCmd (j : Nat) : (mkCmd op ch idx imm).getLsbD j =
    if j < 16 then imm.getLsbD j else if j < 20 then idx.getLsbD (j - 16)
      else if j < 24 then ch.getLsbD (j - 20) else op.getLsbD (j - 24) := by
  change (op ++ ch ++ idx ++ imm).getLsbD j = _
  simp only [BitVec.getLsbD_append]
  grind

@[simp] theorem cmdOp_mkCmd : cmdOp (mkCmd op ch idx imm) = op := by
  ext j hj
  simp only [cmdOp, BitVec.getElem_extractLsb', getLsbD_mkCmd]
  grind

@[simp] theorem cmdCh_mkCmd : cmdCh (mkCmd op ch idx imm) = ch := by
  ext j hj
  simp only [cmdCh, BitVec.getElem_extractLsb', getLsbD_mkCmd]
  grind

@[simp] theorem cmdIdx_mkCmd : cmdIdx (mkCmd op ch idx imm) = idx := by
  ext j hj
  simp only [cmdIdx, BitVec.getElem_extractLsb', getLsbD_mkCmd]
  grind

@[simp] theorem cmdImm_mkCmd : cmdImm (mkCmd op ch idx imm) = imm := by
  ext j hj
  simp only [cmdImm, BitVec.getElem_extractLsb', getLsbD_mkCmd]
  grind

theorem mkCmd_fields (cmd : Word) : mkCmd (cmdOp cmd) (cmdCh cmd) (cmdIdx cmd) (cmdImm cmd) = cmd := by
  refine BitVec.eq_of_getLsbD_eq fun j hj => ?_
  simp only [getLsbD_mkCmd, cmdOp, cmdCh, cmdIdx, cmdImm, BitVec.getLsbD_extractLsb']
  grind

theorem mkCmd_and : mkCmd op ch idx imm &&& mkCmd op' ch' idx' imm'
    = mkCmd (op &&& op') (ch &&& ch') (idx &&& idx') (imm &&& imm') := by
  refine BitVec.eq_of_getLsbD_eq fun j hj => ?_
  simp only [BitVec.getLsbD_and, getLsbD_mkCmd]
  grind

theorem mkCmd_inj : mkCmd op ch idx imm = mkCmd op' ch' idx' imm'
    ↔ op = op' ∧ ch = ch' ∧ idx = idx' ∧ imm = imm' := by
  refine ⟨fun h => ⟨?_, ?_, ?_, ?_⟩, ?_⟩
  · simpa using congrArg cmdOp h
  · simpa using congrArg cmdCh h
  · simpa using congrArg cmdIdx h
  · simpa using congrArg cmdImm h
  · rintro ⟨rfl, rfl, rfl, rfl⟩
    rfl

/-- Bits outside a mask are zero exactly when masking changes nothing. -/
theorem eq_and_iff {n : Nat} (x m : BitVec n) : x = x &&& m ↔ x &&& ~~~m = 0#n := by
  simp only [BitVec.eq_of_getLsbD_eq_iff, BitVec.getLsbD_and, BitVec.getLsbD_not, BitVec.getLsbD_zero]
  grind

end Fields

/-! ### The command a word names (R122, R127) -/

/-- The bits of `ch` that the command uses: all or none (R122). -/
def Instr.chUsed : Instr → BitVec 4
  | .setcoef _ _ | .cutcfg _ _ _ | .posbyp _ _ _ | .rdcoef _ _ _ | .rdcfg _ _ | .smp _ _ | .fsnap _ | .favail _
  | .fpopb _ | .frd _ | .fpope _ | .accum _ | .xform _ | .rdbin _ _ | .map _ | .publish _ | .ptake _
  | .prd _ _ => .allOnes 4
  | .nop | .prepare _ _ | .reset | .wrs _ _ | .rds _ | .wrc _ _ | .rdc _ | .facpk | .faclc _ | .fachc _ | .anen _
  | .commit | .blkbeg | .blkend => 0#4

/-- The bits of `idx` that the command uses: all or none (R122). -/
def Instr.idxUsed : Instr → BitVec 4
  | .wrs _ _ | .rds _ | .wrc _ _ | .rdc _ | .setcoef _ _ | .cutcfg _ _ _ | .posbyp _ _ _ | .rdcoef _ _ _ => .allOnes 4
  | .nop | .prepare _ _ | .reset | .facpk | .faclc _ | .fachc _ | .anen _ | .commit | .rdcfg _ _ | .blkbeg
  | .smp _ _ | .blkend | .fsnap _ | .favail _ | .fpopb _ | .frd _ | .fpope _ | .accum _ | .xform _ | .rdbin _ _
  | .map _ | .publish _ | .ptake _ | .prd _ _ => 0#4

/-- The row of a command in the table of matches and masks (R132): the mask is the opcode and the bits the command does
not use, which are zero in the match. -/
def Instr.row (i : Instr) : OpcodeRow :=
  ⟨mkCmd (.allOnes 8) (~~~i.chUsed) (~~~i.idxUsed) (~~~i.immUsed), mkCmd i.opcode 0#4 0#4 0#16, i.port?⟩

open Laws.Fields in
/-- The opcode map names a command from its own fields. -/
theorem termOf_fields (i : Instr) : termOf i.opcode i.chField i.idxField i.immField i.dataField = some i := by
  cases i
  exacts [nop, prepare _ _, reset, wrs _ _, rds _, wrc _ _, rdc _, facpk, faclc _, fachc _, setcoef _ _, cutcfg _ _ _,
    posbyp _ _ _, anen _, commit, rdcoef _ _ _, rdcfg _ _, blkbeg, smp _ _, blkend, fsnap _, favail _, fpopb _, frd _,
    fpope _, accum _, xform _, rdbin _ _, map _, publish _, ptake _, prd _ _]

theorem Instr.row_mem (i : Instr) : i.row ∈ opcodeTable := by
  cases i
  all_goals
    simp only [Instr.row, Instr.chUsed, Instr.idxUsed, Instr.immUsed, Instr.opcode, Instr.port?]
    decide

/-- Each row of the table is the row of the command that the opcode map names by the row's opcode. -/
theorem exists_row_eq {r : OpcodeRow} (hr : r ∈ opcodeTable) (ch idx : BitVec 4) (imm : BitVec 16) (wdata : Word) :
    ∃ i, termOf (cmdOp r.value) ch idx imm wdata = some i ∧ i.row = r := by
  fin_cases hr
  all_goals
    refine ⟨_, rfl, ?_⟩
    simp only [Instr.row, Instr.chUsed, Instr.idxUsed, Instr.immUsed, Instr.opcode, Instr.port?]
    decide

section Term

variable {op : BitVec 8} {ch idx : BitVec 4} {imm : BitVec 16} {wdata : Word} {i : Instr}

theorem opcode_of_termOf (h : termOf op ch idx imm wdata = some i) : i.opcode = op := by
  unfold termOf at h
  split at h
  all_goals cases h
  all_goals exact BitVec.eq_of_toNat_eq (Eq.symm ‹_›)

theorem data_of_termOf (h : termOf op ch idx imm wdata = some i) :
    i.dataField = wdata ∨ ∀ w, termOf op ch idx imm w = some i := by
  obtain rfl := opcode_of_termOf h
  cases i
  all_goals cases h
  case prepare | wrs | wrc | smp => exact .inl rfl
  all_goals exact .inr fun _ => rfl

/-- The fields of the command are those of the word, with the bits it does not use made zero (R122). -/
theorem fields_of_termOf (h : termOf op ch idx imm wdata = some i) :
    i.chField = ch &&& i.chUsed ∧ i.idxField = idx &&& i.idxUsed
      ∧ (i.immField = imm ∨ i.immField = 0#16 ∧ i.immUsed = 0#16) := by
  obtain rfl := opcode_of_termOf h
  cases i
  all_goals cases h
  all_goals
    simp [-BitVec.reduceAllOnes, Instr.chField, Instr.chUsed, Instr.idxField, Instr.idxUsed, Instr.immField,
      Instr.immUsed]

end Term

/-! ### Decoding (R126, R132) -/

section Decoding

variable {p : Port} {cmd wdata : Word} {i : Instr}

theorem decode_eq_some_iff : decode p cmd wdata = some i ↔
    termOf (cmdOp cmd) (cmdCh cmd) (cmdIdx cmd) (cmdImm cmd) wdata = some i ∧ p.accepts i = true
      ∧ cmdCh cmd = i.chField ∧ cmdIdx cmd = i.idxField ∧ cmdImm cmd = i.immField ∧ i.wellFormed = true := by
  unfold decode
  split
  next h => simp [h]
  next j h =>
    simp only [h, Option.ite_none_right_eq_some, Bool.and_eq_true, beq_iff_eq, Option.some.injEq]
    constructor
    · rintro ⟨⟨⟨⟨⟨hp, hch⟩, hidx⟩, himm⟩, hwf⟩, rfl⟩
      exact ⟨rfl, hp, hch, hidx, himm, hwf⟩
    · rintro ⟨rfl, hp, hch, hidx, himm, hwf⟩
      exact ⟨⟨⟨⟨⟨hp, hch⟩, hidx⟩, himm⟩, hwf⟩, rfl⟩

theorem row_matches_iff : cmd &&& i.row.mask = i.row.value ↔
    cmdOp cmd = i.opcode ∧ cmdCh cmd &&& ~~~i.chUsed = 0#4 ∧ cmdIdx cmd &&& ~~~i.idxUsed = 0#4
      ∧ cmdImm cmd &&& ~~~i.immUsed = 0#16 := by
  conv_lhs => rw [← mkCmd_fields cmd]
  simp [-BitVec.reduceAllOnes, Instr.row, mkCmd_and, mkCmd_inj]

/-- A word decodes to the command its fields name when the port accepts it and the word is in its row (R126, R132). -/
theorem decode_eq_some_iff_row : decode p cmd wdata = some i ↔
    termOf (cmdOp cmd) (cmdCh cmd) (cmdIdx cmd) (cmdImm cmd) wdata = some i ∧ p.accepts i = true
      ∧ cmd &&& i.row.mask = i.row.value := by
  rw [decode_eq_some_iff, row_matches_iff]
  refine and_congr_right fun h => and_congr_right fun _ => ?_
  obtain ⟨hch, hidx, himm⟩ := fields_of_termOf h
  rw [hch, hidx, eq_and_iff, eq_and_iff, Instr.wellFormed, beq_iff_eq, opcode_of_termOf h]
  obtain himm | ⟨himm, hused⟩ := himm
  · simp [himm]
  · rw [← eq_and_iff (cmdImm cmd)]
    simp [himm, hused]

theorem Port.accepts_iff : p.accepts i = true ↔ ∀ q, i.port? = some q → q = p := by
  unfold Port.accepts
  split
  next h => simp [h]
  next q h =>
    rw [h, beq_iff_eq]
    exact ⟨fun hpq _ hq => (Option.some.inj hq).symm.trans hpq.symm, fun hall => (hall q rfl).symm⟩

/-- A word in a row of the table names a command of that row. -/
theorem exists_termOf_of_row {r : OpcodeRow} (hr : r ∈ opcodeTable) (h : cmd &&& r.mask = r.value) (wdata : Word) :
    ∃ i, termOf (cmdOp cmd) (cmdCh cmd) (cmdIdx cmd) (cmdImm cmd) wdata = some i ∧ i.row = r := by
  obtain ⟨i, hterm, rfl⟩ := exists_row_eq hr (cmdCh cmd) (cmdIdx cmd) (cmdImm cmd) wdata
  rw [Instr.row, cmdOp_mkCmd, ← (row_matches_iff.1 h).1] at hterm
  exact ⟨i, hterm, rfl⟩

theorem decode_eq_none_iff : decode p cmd wdata = none ↔
    ∀ r ∈ opcodeTable, cmd &&& r.mask = r.value → ∃ q, r.port = some q ∧ q ≠ p := by
  constructor
  · intro hnone r hr hmatch
    obtain ⟨i, hterm, rfl⟩ := exists_termOf_of_row hr hmatch wdata
    by_contra hport
    have hp : p.accepts i = true := Port.accepts_iff.2 fun q hq => by_contra fun hne => hport ⟨q, hq, hne⟩
    exact absurd (decode_eq_some_iff_row.2 ⟨hterm, hp, hmatch⟩) (by simp [hnone])
  · intro hrows
    refine Option.eq_none_iff_forall_ne_some.2 fun i hi => ?_
    obtain ⟨-, hp, hmatch⟩ := decode_eq_some_iff_row.1 hi
    obtain ⟨q, hq, hne⟩ := hrows i.row i.row_mem hmatch
    exact hne (Port.accepts_iff.1 hp q hq)

end Decoding

/-! ### The statements -/

/-- Settles O4: the fields of the encoding are those of the command, and they name it. -/
theorem decodeOfEncode : Obligations.DecodeOfEncode := by
  intro i p hwf hp
  simp only [decode_eq_some_iff, encode, cmdOp_mkCmd, cmdCh_mkCmd, cmdIdx_mkCmd, cmdImm_mkCmd,
    true_and]
  exact ⟨termOf_fields i, hp, hwf⟩

/-- Settles O5: the fields of the word are those of the command, and the encoder puts them back together. -/
theorem encodeOfDecode : Obligations.EncodeOfDecode := by
  intro p cmd wdata i h
  obtain ⟨hterm, hp, hch, hidx, himm, hwf⟩ := decode_eq_some_iff.1 h
  refine ⟨?_, hwf, hp, (data_of_termOf hterm).imp id fun hany w => ?_⟩
  · rw [encode, opcode_of_termOf hterm, ← hch, ← hidx, ← himm, mkCmd_fields]
  · exact decode_eq_some_iff.2 ⟨hany w, hp, hch, hidx, himm, hwf⟩

/-- Settles O3: a word in a row names the command of that row, and a command word is in the row of its command. -/
theorem illegalWordsChangeNothing : Obligations.IllegalWordsChangeNothing := fun s _ _ _ =>
  ⟨decode_eq_none_iff, fun h => ⟨_, present_of_illegal s h, rfl, onlyAnswer_answered s _ _⟩⟩

/-- Settles O1: each word is the encoding of the command, on its port. -/
theorem decodeReadsWrittenWords : Obligations.DecodeReadsWrittenWords :=
  ⟨decodeOfEncode (.prepare 0x0040#16 0x473B8000#32) .ctl rfl rfl,
    decodeOfEncode (.wrc 3#4 0xBF000000#32) .ctl rfl rfl,
    decodeOfEncode (.cutcfg 0#4 2#4 0x0001#16) .ctl rfl rfl,
    decodeOfEncode (.rdcoef 0#4 4#4 0x0013#16) .ctl rfl rfl,
    decodeOfEncode (.smp 1#4 0x3F800000#32) .aud rfl rfl,
    decodeOfEncode (.frd 1#4) .ana rfl rfl,
    decodeOfEncode (.rdbin 0#4 0x0200#16) .ana rfl rfl,
    decodeOfEncode (.prd 0#4 0x01D9#16) .ren rfl rfl⟩

end Sys2Proof
end

section
/-! Results that rounding leaves exact: a number of units that is a word's own, a doubled word, a word divided by itself
or by 1 (R14, R15), and the power of a zero (R17). -/

namespace Sys2Proof.Machine.F32

open Reference

/-! ### Rounding of a word's own magnitude -/

/-- A common factor of numerator and denominator does not show in the nearest integer. -/
theorem roundHalfEven_mul_left {c : Nat} (hc : 0 < c) (n d : Nat) :
    roundHalfEven (c * n) (c * d) = roundHalfEven n d := by
  simp only [roundHalfEven, Nat.mul_div_mul_left n d hc, Nat.mul_mod_mul_left, Nat.mul_left_comm 2 c,
    Nat.mul_lt_mul_left hc]

/-- A common factor of numerator and denominator does not show in the rounded quotient. -/
theorem roundMag_mul_left {c : Nat} (hc : 0 < c) (n d : Nat) : roundMag (c * n) (c * d) = roundMag n d := by
  simp only [roundMag, Nat.mul_div_mul_left n d hc, Nat.mul_assoc, roundHalfEven_mul_left hc]

theorem roundHalfEven_mul_self (n : Nat) {d : Nat} (hd : 0 < d) : roundHalfEven (n * d) d = n := by
  simp only [roundHalfEven, Nat.mul_mod_left, Nat.mul_zero, if_pos hd, Nat.mul_div_cancel n hd]

/-- The exponent of `f · 2^k` is `k` again, for a 24-bit or subnormal significand `f`. -/
theorem log2_significand {k f : Nat} (hlo : k = 0 ∨ 2 ^ 23 ≤ f) (hhi : f < 2 ^ 24) : (f * 2 ^ k).log2 - 23 = k := by
  obtain rfl | hnormal := hlo
  · by_cases hf : f = 0
    · subst hf
      decide
    · have hlog : f.log2 < 24 := (Nat.log2_lt hf).2 hhi
      rw [pow_zero, mul_one]
      omega
  · have hlog : (f * 2 ^ k).log2 = 23 + k := by
      rw [Nat.log2_eq_iff (by positivity), pow_add, show 23 + k + 1 = 24 + k by omega, pow_add]
      exact ⟨Nat.mul_le_mul_right _ hnormal, Nat.mul_lt_mul_of_pos_right hhi (by positivity)⟩
    omega

/-- Rounding leaves the absolute value of a word as it is, up to infinity. -/
theorem roundMag_magUnits (m : Nat) : roundMag (magUnits m) 1 = min m infBits := by
  obtain ⟨k, f, rfl, hlo, hhi⟩ := exists_significand m
  rw [magUnits_eq hlo hhi.le, roundMag, Nat.div_one, log2_significand hlo hhi, one_mul,
    roundHalfEven_mul_self f (by positivity)]

/-! ### Doubling -/

/-- The magnitude of twice a word: a subnormal is shifted, every other exponent is one higher. -/
def doubleMag (m : Nat) : Nat := if m < 2 ^ 23 then 2 * m else m + 2 ^ 23

theorem magUnits_doubleMag (m : Nat) : magUnits (doubleMag m) = 2 * magUnits m := by
  unfold doubleMag
  split
  · rename_i hsub
    have hsame : magUnits m = m := by simpa using magUnits_eq (k := 0) (f := m) (.inl rfl) (by omega)
    rw [hsame]
    simpa using magUnits_eq (k := 0) (f := 2 * m) (.inl rfl) (by omega)
  · obtain ⟨k, f, rfl, hlo, hhi⟩ := exists_significand m
    rw [show k * 2 ^ 23 + f + 2 ^ 23 = (k + 1) * 2 ^ 23 + f by ring, magUnits_eq (.inr (by omega)) hhi.le,
      magUnits_eq hlo hhi.le, pow_succ]
    ring

/-- The product with a word of absolute value 2 is exact where it does not overflow (R15). -/
theorem value_fmul_of_units {c b : Word} (ν : Word) (hc : isFinite c = true) (hu : units c = 2 * 2 ^ 149)
    (hb : isFinite b = true) (hf : isFinite (fmul ν c b) = true) : value (fmul ν c b) = value c * value b := by
  have hround : roundMag (units c * units b) (2 ^ 149) = min (doubleMag (mag b)) infBits := by
    have hscale := roundMag_mul_left (c := 2 ^ 149) (by positivity) (magUnits (doubleMag (mag b))) 1
    rw [mul_one, roundMag_magUnits] at hscale
    rw [hu, mul_comm 2, mul_assoc, units_eq b, ← magUnits_doubleMag, hscale]
  have hlt : min (doubleMag (mag b)) infBits < 2 ^ 31 := (min_le_right _ _).trans_lt (by decide)
  rw [fmul_of_finite ν hc hb, hround] at hf ⊢
  rw [isFinite, mag_pack hlt, decide_eq_true_eq] at hf
  have hmag : mag (pack (sign c != sign b) (min (doubleMag (mag b)) infBits)) = doubleMag (mag b) := by
    rw [mag_pack hlt]
    omega
  rw [value_eq_signed, value_eq_signed c, value_eq_signed b, div_mul_div_comm, signed_mul, sign_pack hlt, units_eq,
    hmag, magUnits_doubleMag, ← units_eq, hu, Nat.cast_mul, Nat.cast_mul, Nat.cast_pow, Nat.cast_ofNat, mul_right_comm,
    ← signed_mul_right _ _ (2 ^ 149), mul_div_mul_right _ _ (by positivity)]

theorem value_two : value two = 2 := by
  rw [value_eq_signed, show sign two = false from rfl, show units two = 2 * 2 ^ 149 by decide]
  rw [signed, if_neg Bool.false_ne_true, Nat.cast_mul, Nat.cast_pow, Nat.cast_ofNat,
    mul_div_cancel_right₀ _ (by positivity)]

theorem value_negTwo : value negTwo = -2 := by
  rw [show negTwo = fneg two by decide, value_fneg, value_two]

/-! ### Division by itself and by 1 -/

theorem units_one : units one = 2 ^ 149 := by decide

/-- A product with 1 and a quotient by 1 are the same word, also where they are no number. -/
theorem fmul_one_eq_fdiv_one (ν a : Word) : fmul ν a one = fdiv ν a one := by
  cases hn : isNaN a with
  | true => simp only [fmul, fdiv, hn, Bool.true_or, if_true]
  | false =>
    cases hi : isInf a with
    | true =>
      simp only [fmul, fdiv, hn, hi, isZero_of_isInf hi, show isNaN one = false by decide,
        show isInf one = false by decide, show isZero one = false by decide, Bool.or_self, Bool.true_or,
        Bool.false_eq_true, if_true, if_false]
    | false =>
      have hf := isFinite_of_not hn hi
      rw [fmul_of_finite ν hf (by decide), fdiv_of_finite ν hf (by decide) (by decide), units_one]

/-- A word divided by itself is 1.0 where it is a number at all. -/
theorem fdiv_self_of_isFinite {ν a : Word} (h : isFinite (fdiv ν a a) = true) : fdiv ν a a = one := by
  have hnum : ¬isNaN (fdiv ν a a) = true := by
    rw [isNaN_of_isFinite h]
    exact Bool.false_ne_true
  have hn : isNaN a = false := Bool.eq_false_iff.2 fun hn => by
    obtain ⟨-, -, -, hdiv, -⟩ := nan_operand (ν := ν) (b := a) (.inl hn)
    exact hnum hdiv
  have hi : isInf a = false := Bool.eq_false_iff.2 fun hi => hnum (inf_inf hi hi).2
  have hz : isZero a = false := Bool.eq_false_iff.2 fun hz => hnum (zero_div_zero hz hz)
  have hf := isFinite_of_not hn hi
  have hround : roundMag (units a * 2 ^ 149) (units a) = mag one := by
    have hscale := roundMag_mul_left (units_pos hz) (2 ^ 149) 1
    rw [mul_one] at hscale
    rw [hscale, ← units_one, units_eq, roundMag_magUnits]
    decide
  rw [fdiv_of_finite ν hf hf hz, hround, bne_self_eq_false]
  decide

/-! ### Zeros -/

/-- A zero divided by a number other than 0 is a zero. -/
theorem isZero_fdiv (ν : Word) {a b : Word} (ha : isZero a = true) (hb : isFinite b = true) (hz : isZero b = false) :
    isZero (fdiv ν a b) = true := by
  have hround : roundMag (units a * 2 ^ 149) (units b) = 0 := by
    simp [units_eq_zero.2 ha, roundMag, roundHalfEven, units_pos hz]
  rw [fdiv_of_finite ν (isFinite_of_isZero ha) hb hz, hround, isZero_pack_zero]

/-- `pow10` of either zero (R17). -/
theorem pow10_of_isZero {x : Word} (h : isZero x = true) : pow10 x = one := by
  simp only [pow10, isNaN_of_isFinite (isFinite_of_isZero h), h, Bool.false_eq_true, if_false, if_true]

end Sys2Proof.Machine.F32
end

section
/-! The staging registers and the coefficient factory (R150 to R169). -/

namespace Sys2Proof.Machine

open F32 Reference

/-! ### The staging registers (R31, R152, R153) -/

/-- The state with a block staged and the answer ST_OK: what every command that writes the staging registers leaves. -/
def State.staged (s : State) (k : Coef) : State := ({ s with cst := k } : State).answered .ok 0#32

@[simp] theorem State.staged_cst (s : State) (k : Coef) : (s.staged k).cst = k := rfl

theorem State.staged_eq (s : State) (k : Coef) :
    s.staged k = { s with answer := some ⟨.ok, 0#32⟩, cst := (s.staged k).cst } := rfl

theorem State.sameMemory_staged (s : State) (k : Coef) : SameMemory s (s.staged k) :=
  .of_memory fun _ m => by cases m <;> rfl

theorem Coef.get_set (k : Coef) (i j : Fin 5) (w : Word) : (k.set i w).get j = if j = i then w else k.get j := by
  split
  · rename_i h
    rw [h, Coef.get_set_self]
  · exact Coef.get_set_ne k w ‹_›

theorem withCoefWord_of_val {k : Fin 5} {n : Nat} (h : k.val = n) (s : State) (body : Fin 5 → Result) :
    withCoefWord n s body = body k := by rw [withCoefWord, ← h, coefWordOf_val]

theorem withCoefWord_of_lt {n : Nat} (h : 4 < n) (s : State) (body : Fin 5 → Result) :
    withCoefWord n s body = .next (s.answered .operand 0#32) := by rw [withCoefWord, coefWordOf_eq_none.2 h, refuse_eq]

theorem execWrc_next (s : State) {idx : BitVec 4} {w : Word} {k : Fin 5} (hk : k.val = idx.toNat)
    (hw : isFinite w = true) : execWrc idx w s = .next (s.staged (s.cst.set k w)) :=
  (withCoefWord_of_val hk s _).trans (require_of hw _ _ _)

theorem execRdc_next (s : State) {idx : BitVec 4} {k : Fin 5} (hk : k.val = idx.toNat) :
    execRdc idx s = .next (s.answered .ok (s.cst.get k)) := withCoefWord_of_val hk s _

/-- Settles O13: a register number up to 4 names a word of the staging block, any other is refused. -/
theorem wrcAndRdcComplete : Obligations.WrcAndRdcComplete := by
  intro s idx w
  refine ⟨fun hidx hw => ?_, fun hidx hw => ?_, fun hidx => .of_exec (withCoefWord_of_lt hidx s _),
    fun k hk => ⟨_, execRdc_next s hk, rfl, onlyAnswer_answered s _ _⟩,
    fun hidx => .of_exec (withCoefWord_of_lt hidx s _)⟩
  · refine ⟨_, execWrc_next s (k := ⟨idx.toNat, Nat.lt_succ_of_le hidx⟩) rfl hw, s.staged_eq _, fun j => ?_,
      s.sameMemory_staged _⟩
    simp only [State.staged_cst, Coef.get_set, Fin.ext_iff]
  · exact .of_exec ((withCoefWord_of_val (k := ⟨idx.toNat, Nat.lt_succ_of_le hidx⟩) rfl s _).trans
      (require_of_not hw _ _ _))

/-! ### FACPK (R156) -/

/-- The settings are inside the domain of a peak filter (R156). -/
def PeakDomain (ν f g q fs : Word) : Prop :=
  isFinite f = true ∧ isFinite g = true ∧ isFinite q = true ∧ isFinite fs = true ∧ fgt f zero = true
    ∧ fgt q zero = true ∧ flt f (fmul ν half fs) = true

theorem peakBlock_of_domain {ν f g q fs : Word} (h : PeakDomain ν f g q fs) :
    peakBlock ν f g q fs = finalize (peakCoef ν f g q fs) :=
  if_pos (by simpa only [PeakDomain, belowNyquist, Bool.and_eq_true, and_assoc] using h)

theorem peakBlock_of_not_domain {ν f g q fs : Word} (h : ¬PeakDomain ν f g q fs) :
    peakBlock ν f g q fs = .ident :=
  if_neg (by simpa only [PeakDomain, belowNyquist, Bool.and_eq_true, and_assoc] using h)

theorem execFacpk_next {s : State} (hp : s.prepared = true) :
    execFacpk s = .next (s.staged
      (peakBlock (s.nan 0) s.settings.sPkFreq s.settings.sPkGain s.settings.sPkQ s.rFs)) := require_of hp _ _ _

/-- Settles O14: on a prepared block FACPK stages the peak block of the settings. -/
theorem facpkCompletes : Obligations.FacpkCompletes := by
  intro s f g q inDomain
  exact ⟨fun hp => ⟨_, execFacpk_next hp, s.staged_eq _, s.sameMemory_staged _, peakBlock_of_domain,
    peakBlock_of_not_domain⟩, fun hp => .of_exec (require_of_not hp _ _ _)⟩

/-! ### FACLC and FACHC (R160, R164) -/

/-- The cutoff is inside the domain of a cut filter (R160, R164). -/
def CutoffDomain (ν fc fs : Word) : Prop :=
  isFinite fc = true ∧ isFinite fs = true ∧ fgt fc zero = true ∧ flt fc (fmul ν half fs) = true

theorem validCutoff_iff {ν fc fs : Word} : validCutoff ν fc fs = true ↔ CutoffDomain ν fc fs := by
  simp only [validCutoff, belowNyquist, CutoffDomain, Bool.and_eq_true, and_assoc]

/-- The low two bits of an operand. -/
theorem toNat_extract_two (imm : BitVec 16) : (imm.extractLsb' 0 2).toNat = imm.toNat % 4 := by
  rw [BitVec.extractLsb'_toNat, Nat.shiftRight_zero]

section CutSection

variable {s : State} {imm : BitVec 16}

theorem execFaclc_next (hi : imm.toNat % 4 ≤ s.settings.sLcSlope.toNat) (hp : s.prepared = true) :
    execFaclc imm s = .next (s.staged (lowCutBlock (s.nan 0) s.settings.sLcFreq s.rFs
      (invQ s.settings.sLcSlope.toNat (imm.toNat % 4)))) := by
  simp only [execFaclc, toNat_extract_two, require_of (decide_eq_true hi), require_of hp]
  rfl

theorem execFachc_next (hi : imm.toNat % 4 ≤ s.settings.sHcSlope.toNat) (hp : s.prepared = true) :
    execFachc imm s = .next (s.staged (highCutBlock (s.nan 0) s.settings.sHcFreq s.rFs
      (invQ s.settings.sHcSlope.toNat (imm.toNat % 4)))) := by
  simp only [execFachc, toNat_extract_two, require_of (decide_eq_true hi), require_of hp]
  rfl

theorem refuses_faclc (hi : s.settings.sLcSlope.toNat < imm.toNat % 4) : Refuses (.faclc imm) s .operand :=
  .of_exec (require_of_not (decide_eq_false (by rw [toNat_extract_two]; omega)) _ _ _)

theorem refuses_fachc (hi : s.settings.sHcSlope.toNat < imm.toNat % 4) : Refuses (.fachc imm) s .operand :=
  .of_exec (require_of_not (decide_eq_false (by rw [toNat_extract_two]; omega)) _ _ _)

end CutSection

/-- Settles O15: a section the slope code has is staged, by the evaluation of its own cut filter. -/
theorem faclcAndFachcComplete : Obligations.FaclcAndFachcComplete := by
  intro s imm i below
  refine ⟨fun hi hp => ⟨_, execFaclc_next hi hp, s.staged_eq _, s.sameMemory_staged _, fun h => ?_, fun h => ?_⟩,
    fun hi hp => ⟨_, execFachc_next hi hp, s.staged_eq _, s.sameMemory_staged _, fun h => ?_, fun h => ?_⟩,
    refuses_faclc, refuses_fachc⟩
  · exact if_pos (validCutoff_iff.2 h)
  · exact if_neg (mt validCutoff_iff.1 h)
  · exact if_pos (validCutoff_iff.2 h)
  · exact if_neg (mt validCutoff_iff.1 h)

/-! ### The clamp (R151) -/

theorem Coef.allFinite_iff {k : Coef} : k.allFinite = true ↔ ∀ j, isFinite (k.get j) = true := by
  simp only [Coef.allFinite, Bool.and_eq_true, and_assoc, Fin.forall_fin_succ, IsEmpty.forall_iff, and_true]
  rfl

/-- A command that answers ST_OK has met its condition. -/
theorem require_ok {cond : Bool} {st : Status} {s t : State} {body : Result} {w : Word} (hst : st ≠ .ok)
    (ha : t.answer = some ⟨.ok, w⟩) (h : require cond st s body = .next t) : body = .next t := by
  obtain ⟨-, rfl⟩ | ⟨-, h⟩ := require_eq_next h
  · rw [State.answered_answer, Option.some.injEq, Answer.mk.injEq] at ha
    exact absurd ha.1 hst
  · exact h

/-- A factory command that answers ST_OK stages a block that went through the clamp (R151). -/
theorem allFinite_of_factory_ok {i : Instr} {s t : State} {w : Word}
    (hi : i = .facpk ∨ (∃ imm, i = .faclc imm) ∨ ∃ imm, i = .fachc imm) (h : exec i s = .next t)
    (ha : t.answer = some ⟨.ok, w⟩) : t.cst.allFinite = true := by
  obtain rfl | ⟨imm, rfl⟩ | ⟨imm, rfl⟩ := hi
  · rw [eq_of_next (require_ok (by decide) ha h)]
    exact allFinite_peakBlock _ _ _ _ _
  · rw [eq_of_next (require_ok (by decide) ha (require_ok (by decide) ha h))]
    exact allFinite_lowCutBlock _ _ _ _
  · rw [eq_of_next (require_ok (by decide) ha (require_ok (by decide) ha h))]
    exact allFinite_highCutBlock _ _ _ _

/-- Settles O16: the clamp keeps a block of finite words and replaces any other. -/
theorem factoryEmitsFiniteBlocks : Obligations.FactoryEmitsFiniteBlocks := by
  refine ⟨fun s t i w hi h ha => Coef.allFinite_iff.1 (allFinite_of_factory_ok hi h ha), fun k => ⟨fun h => ?_, ?_⟩⟩
  · exact if_pos (Coef.allFinite_iff.2 h)
  · rintro ⟨j, hj⟩
    exact if_neg fun h => Bool.false_ne_true (hj.symm.trans (Coef.allFinite_iff.1 h j))

/-! ### A peak of zero gain (R156) -/

/-- The numerator of the block is its denominator, word for word. -/
def Coef.IsUnity (k : Coef) : Prop := k.b0 = one ∧ k.b1 = k.a1 ∧ k.b2 = k.a2

theorem Coef.isUnity_ident : Coef.ident.IsUnity := ⟨rfl, rfl, rfl⟩

theorem isUnity_finalize {k : Coef} (h : k.allFinite = true → k.IsUnity) : (finalize k).IsUnity := by
  unfold finalize
  split
  exacts [h ‹_›, Coef.isUnity_ident]

/-- At zero gain the amplitude is 1, so that `alpha · A` is `alpha / A` and `b0` is `a0 / a0`. -/
theorem isUnity_peakCoef {ν f g q fs : Word} (hg : isZero g = true) (h : (peakCoef ν f g q fs).allFinite = true) :
    (peakCoef ν f g q fs).IsUnity := by
  have hamp : pow10 (fdiv ν g forty) = one := pow10_of_isZero (isZero_fdiv ν hg (by decide) (by decide))
  have hb0 : isFinite (peakCoef ν f g q fs).b0 = true := Coef.allFinite_iff.1 h 0
  simp only [peakCoef, hamp, fmul_one_eq_fdiv_one] at hb0
  simp only [Coef.IsUnity, peakCoef, hamp, fmul_one_eq_fdiv_one, fdiv_self_of_isFinite hb0, and_self]

theorem isUnity_peakBlock (ν f q fs : Word) {g : Word} (hg : isZero g = true) : (peakBlock ν f g q fs).IsUnity := by
  unfold peakBlock
  split
  exacts [isUnity_finalize (isUnity_peakCoef hg), Coef.isUnity_ident]

/-- Settles O17: both zeros give the amplitude 1, inside the domain and outside it. -/
theorem peakAtZeroGainIsUnity : Obligations.PeakAtZeroGainIsUnity := by
  intro s hp hg
  have hz : isZero s.settings.sPkGain = true := by
    obtain hg | hg := hg <;> rw [hg] <;> decide
  exact ⟨_, execFacpk_next hp, isUnity_peakBlock _ _ _ _ hz⟩

/-! ### The zeros of a cut section (R161, R165) -/

/-- Settles O18: the words of the numerator are `c1` and its double, and doubling is exact. -/
theorem cutSectionsHaveExactZeros : Obligations.CutSectionsHaveExactZeros := by
  refine ⟨fun ν fc fs iq => ⟨rfl, rfl, rfl, rfl⟩, fun ν b hb => ⟨fun hf => ?_, fun hf => ?_⟩⟩
  · exact (value_fmul_of_units (c := two) ν (by decide) (by decide) hb hf).trans (by rw [value_two])
  · exact (value_fmul_of_units (c := negTwo) ν (by decide) (by decide) hb hf).trans (by rw [value_negTwo])

end Sys2Proof.Machine
end

section
/-! Filter chain control, BLKBEG and the autonomous steps (R186 to R193, R214, R243, R244). -/

namespace Sys2Proof.Machine

/-! ### The shadow configuration (R53) -/

/-- Memories are part of the channels. -/
theorem SameMemory.of_chans {s t : State} (h : t.chans = s.chans) : SameMemory s t :=
  .of_memory fun _ m => by cases m <;> simp only [State.memory, State.chan, h]

/-- The state with a new shadow configuration and the answer ST_OK: what CUTCFG, POSBYP and ANEN leave. -/
def State.shadowed (s : State) (g : Cfg) : State := ({ s with cfgSh := g } : State).answered .ok 0#32

@[simp] theorem State.shadowed_cfgSh (s : State) (g : Cfg) : (s.shadowed g).cfgSh = g := rfl

theorem State.sameMemory_shadowed (s : State) (g : Cfg) : SameMemory s (s.shadowed g) := .of_chans rfl

theorem State.commitPending_eq_true {s : State} : s.commitPending = true ↔ s.cReq ≠ s.cAckC := bne_iff_ne

/-- The condition of R186 and R192 that no commit is pending. -/
theorem State.not_commitPending_of_eq {s : State} (h : s.cReq = s.cAckC) : (!s.commitPending) = true := by
  rw [State.commitPending_eq_false.2 h, Bool.not_false]

theorem State.not_commitPending_of_ne {s : State} (h : s.cReq ≠ s.cAckC) : (!s.commitPending) = false := by
  rw [State.commitPending_eq_true.2 h, Bool.not_true]

/-! ### SETCOEF (R186) -/

theorem withStage_of_toNat {idx : BitVec 4} {u : Fin 9} (h : idx.toNat = u.val) (s : State) (body : Fin 9 → Result) :
    withStage idx s body = body u := by simp only [withStage, stageOf_of_toNat h]

/-- The state SETCOEF leaves: the staged block in the free bank of the stage, selected in the shadow configuration. -/
def State.coefSet (s : State) (c : Channel) (u : Fin 9) : State :=
  ({ s.setChan c ((s.chan c).setBank u (s.freeBank c u) s.cst) with
    cfgSh := s.cfgSh.setChan c { s.cfgSh.chan c with
      sel := (s.cfgSh.chan c).sel.set u (s.freeBank c u) } } : State).answered .ok 0#32

section CoefSet

variable (s : State) (c : Channel) (u : Fin 9)

theorem State.chan_coefSet : (s.coefSet c u).chan c = (s.chan c).setBank u (s.freeBank c u) s.cst :=
  Pair.get_set_self _ _ _

theorem State.cfgSh_chan_coefSet : (s.coefSet c u).cfgSh.chan c = { s.cfgSh.chan c with
    sel := (s.cfgSh.chan c).sel.set u (s.freeBank c u) } := Cfg.chan_setChan_self _ _ _

theorem State.coefSet_eq : s.coefSet c u = { s with
    answer := some ⟨.ok, 0#32⟩, chans := s.chans.set c { s.chan c with banks := ((s.coefSet c u).chan c).banks }
    cfgSh := s.cfgSh.setChan c { s.cfgSh.chan c with sel := ((s.coefSet c u).cfgSh.chan c).sel } } := by
  rw [State.chan_coefSet, State.cfgSh_chan_coefSet]
  rfl

theorem State.sel_coefSet (v : Fin 9) : ((s.coefSet c u).cfgSh.chan c).sel.get v
    = if v = u then s.freeBank c u else (s.cfgSh.chan c).sel.get v := by
  rw [State.cfgSh_chan_coefSet, vector_get_set]

/-- The stage is fresh (R54): the shadow configuration selects the bank that the posted one does not. -/
theorem State.fresh_coefSet : (s.coefSet c u).fresh c u = true := by
  rw [State.fresh, State.sel_coefSet, if_pos rfl, bne_iff_ne]
  exact Bool.not_ne_self _

end CoefSet

theorem execSetcoef_next {s : State} (c : Channel) {idx : BitVec 4} {u : Fin 9} (hu : idx.toNat = u.val)
    (hidle : s.cReq = s.cAckC) : execSetcoef c.code idx s = .next (s.coefSet c u) :=
  (withChannel_code c s _).trans <| (withStage_of_toNat hu s _).trans <|
    require_of (State.not_commitPending_of_eq hidle) _ _ _

/-- Settles O20: SETCOEF leaves `coefSet`, which writes one bank and one select bit. -/
theorem setcoefCompletes : Obligations.SetcoefCompletes := by
  intro s c idx u hu b
  refine ⟨fun hidle => ⟨s.coefSet c u, execSetcoef_next c hu hidle, s.coefSet_eq c u, ?_, fun v d hvd => ?_,
    s.sel_coefSet c u, s.fresh_coefSet c u, (ctlFrame_setBank s c u _ _ _ _ _).1⟩, fun hpend => ?_⟩
  · rw [State.chan_coefSet]
    exact Chan.bank_setBank_self _ _ _ _
  · rw [State.chan_coefSet]
    exact Chan.bank_setBank_ne _ _ hvd
  · exact .of_exec <| (withChannel_code c s _).trans <| (withStage_of_toNat hu s _).trans <|
      require_of_not (State.not_commitPending_of_ne hpend) _ _ _

/-! ### CUTCFG (R188) -/

theorem withCut_code (cut : Cut) (s : State) (body : Cut → Result) : withCut cut.code s body = body cut := by
  cases cut <;> rfl

theorem get_cutBypass (k : Nat) (j : Fin 4) : (cutBypass k).get j = decide (k < j.val) := by
  simp only [cutBypass, Vector.get_eq_getElem, Vector.getElem_ofFn]

theorem State.cutFresh_iff {s : State} {c : Channel} {cut : Cut} {k : Nat} :
    s.cutFresh c cut k = true ↔ ∀ j : Fin 4, j.val ≤ k → s.fresh c (cut.stage j) = true := by
  simp only [State.cutFresh, List.all_eq_true, List.mem_finRange, forall_const, Bool.or_eq_true, decide_eq_true_eq,
    or_iff_not_imp_left, not_lt]

/-- CUTCFG on a cut filter, with its operands read. -/
theorem execCutcfg_code (s : State) (c : Channel) (cut : Cut) (imm : BitVec 16) :
    execCutcfg c.code cut.code imm s = require (s.cutFresh c cut (imm.toNat % 4)) .stale s (.next (s.shadowed
      (s.cfgSh.setChan c ((s.cfgSh.chan c).setCutByp cut (cutBypass (imm.toNat % 4)))))) := by
  simp only [execCutcfg, withChannel_code, withCut_code, toNat_extract_two]
  rfl

/-- Settles O21: fresh stages let CUTCFG write the bypass bits of the slope code; position PK is no cut filter. -/
theorem cutcfgCompletes : Obligations.CutcfgCompletes := by
  intro s c cut imm
  have hexec := execCutcfg_code s c cut imm
  refine ⟨fun hfresh => ⟨_, hexec.trans (require_of (State.cutFresh_iff.2 hfresh) _ _ _), ?_, fun j => ?_,
    s.sameMemory_shadowed _⟩, fun ⟨j, hj, hstale⟩ => ?_, .of_exec (withChannel_code c s _)⟩
  · rw [State.shadowed_cfgSh, Cfg.chan_setChan_self, ChanCfg.cutByp_setCutByp, if_pos rfl]
    rfl
  · rw [State.shadowed_cfgSh, Cfg.chan_setChan_self, ChanCfg.cutByp_setCutByp, if_pos rfl, get_cutBypass]
  · refine .of_exec (hexec.trans (require_of_not (Bool.eq_false_iff.2 fun h => ?_) _ _ _))
    exact Bool.false_ne_true (hstale.symm.trans (State.cutFresh_iff.1 h j hj))

/-! ### POSBYP and ANEN (R190, R191) -/

theorem positionOf_of_toNat {idx : BitVec 4} {p : Fin 3} (h : idx.toNat = p.val) : positionOf idx = some p := by
  rw [positionOf, dif_pos (h.trans_lt p.isLt)]
  exact congrArg some (Fin.ext h)

theorem execPosbyp_next (s : State) (c : Channel) {idx : BitVec 4} {p : Fin 3} (hp : idx.toNat = p.val)
    (imm : BitVec 16) : execPosbyp c.code idx imm s = .next (s.shadowed (s.cfgSh.setChan c { s.cfgSh.chan c with
      posByp := (s.cfgSh.chan c).posByp.set p (imm.getLsbD 0) })) := by
  simp only [execPosbyp, withChannel_code, withPosition, positionOf_of_toNat hp]
  rfl

theorem execPosbyp_operand {ch idx : BitVec 4} (h : 1 < ch.toNat ∨ 2 < idx.toNat) (imm : BitVec 16) (s : State) :
    execPosbyp ch idx imm s = .next (s.answered .operand 0#32) := by
  cases hc : channelOf ch with
  | none => simp only [execPosbyp, withChannel, hc, refuse_eq]
  | some c =>
    have hidx : 2 < idx.toNat := h.resolve_left fun hch => by simp [channelOf_eq_none.2 hch] at hc
    simp only [execPosbyp, withChannel, hc, withPosition, positionOf_eq_none.2 hidx, refuse_eq]

/-- Settles O22: POSBYP replaces one entry of the position bits, ANEN the analyzer bit. -/
theorem posbypAndAnenComplete : Obligations.PosbypAndAnenComplete := by
  intro s imm
  refine ⟨fun c idx p hp => ⟨_, execPosbyp_next s c hp imm, ?_, fun q => ?_, s.sameMemory_shadowed _⟩,
    fun ch idx h => .of_exec (execPosbyp_operand h imm s), s.shadowed _, rfl, rfl, s.sameMemory_shadowed _⟩
  · rw [State.shadowed_cfgSh, Cfg.chan_setChan_self]
    rfl
  · rw [State.shadowed_cfgSh, Cfg.chan_setChan_self, vector_get_set]

/-! ### COMMIT (R192) -/

/-- Settles O23: after COMMIT the shadow configuration is the posted one, so no stage is fresh. -/
theorem commitCompletes : Obligations.CommitCompletes := by
  intro s
  refine ⟨fun hidle => ⟨_, execCommit_next (State.commitPending_eq_false.2 hidle), rfl, ?_, fun c u => ?_,
    .of_chans rfl⟩, fun hpend => .of_exec (require_of_not (State.not_commitPending_of_ne hpend) _ _ _)⟩
  · exact State.commitPending_eq_true.2 fun h => Bool.not_ne_self s.cReq (h.trans hidle.symm)
  · exact bne_self_eq_false _

/-! ### BLKBEG (R214) -/

/-- Without a request to acknowledge, adoption changes nothing (R194). -/
theorem State.adopt_of_acknowledged {s : State} (h : s.cReqA = s.cAck) : s.adopt = s := by
  obtain ⟨hseen, -⟩ | ⟨-, ha⟩ := s.adopt_cases
  exacts [absurd h hseen, ha]

theorem State.chan_opened (s : State) (c : Channel) : s.opened.chan c = { s.chan c with smpCnt := 0#16 } := by
  rw [State.opened, State.adopt_chans]
  exact Pair.get_map _ _ _

theorem State.opened_eq (s : State) : s.opened = { s with
    cfgAct := s.opened.cfgAct, cAck := s.opened.cAck, inBlock := true, pushEn := s.opened.cfgAct.anEn
    chans := s.opened.chans } := by
  obtain ⟨-, ha⟩ | ⟨-, ha⟩ := s.adopt_cases <;> rw [State.opened, ha]

theorem State.sameMemory_opened (s : State) (st : Status) (w : Word) : SameMemory s (s.opened.answered st w) :=
  .of_memory fun c m => by
    rw [State.memory_answered]
    cases m <;> simp only [State.memory, State.chan_opened]

/-- Settles O25: BLKBEG leaves `opened`, by the two cases of adoption. -/
theorem blkbegCompletes : Obligations.BlkbegCompletes := by
  intro s
  refine ⟨fun hp hb => ⟨_, execBlkbeg_next hp hb, ?_, s.chan_opened, fun hseen => ?_, fun hseen => ?_,
    s.sameMemory_opened _ _⟩, fun hp => .of_exec (require_of_not hp _ _ _), fun hp hb => .of_exec ?_⟩
  · exact congrArg (State.answered · .ok 0#32) s.opened_eq
  · rw [State.opened, State.adopt_of_seen hseen]
    exact ⟨rfl, rfl⟩
  · rw [State.opened, State.adopt_of_acknowledged hseen]
    exact ⟨rfl, rfl⟩
  · exact (require_of hp _ _ _).trans (require_of_not (by rw [hb, Bool.not_true]) _ _ _)

/-! ### The autonomous steps (R193, R243, R244) -/

/-- Settles O49: each synchroniser by its definition, SNP by the case in which it is enabled. -/
theorem autonomousSteps : Obligations.AutonomousSteps := by
  refine fun s c => ⟨rfl, rfl, rfl, rfl, fun henabled => ?_⟩
  obtain ⟨-, hc⟩ | ⟨hidle, -⟩ := snp_cases c s
  exacts [congrArg Host.Outcome.next hc, absurd hidle henabled]

end Sys2Proof.Machine
end

section
/-! The arithmetic of an identity stage: a factor 1, a factor 0, an added zero (R14, R15). -/

namespace Sys2Proof.Machine.F32

section Finite

variable {a b : Word}

theorem mag_eq_zero : mag a = 0 ↔ isZero a = true := by rw [isZero, beq_iff_eq]

theorem mag_lt_of_isFinite (h : isFinite a = true) : mag a < infBits := by simpa [isFinite] using h

theorem signedUnits_eq_zero : signedUnits a = 0 ↔ isZero a = true := by
  rw [← units_eq_zero, signedUnits]
  split <;> omega

/-- The number of units and the sign give the word back, unless it is a zero. -/
theorem pack_signedUnits (hf : isFinite a = true) (hz : isZero a = false) :
    pack (decide (signedUnits a < 0)) (roundMag (signedUnits a).natAbs 1) = a := by
  have hu := units_pos hz
  have hm := mag_lt_of_isFinite hf
  have hsign : decide (signedUnits a < 0) = sign a := by
    unfold signedUnits
    cases sign a <;> simp [hu]
  have habs : (signedUnits a).natAbs = units a := by
    unfold signedUnits
    split <;> omega
  rw [hsign, habs, units_eq, roundMag_magUnits, min_eq_left hm.le]
  have hlt : mag a < 2 ^ 31 := hm.trans (by decide)
  exact eq_of_sign_mag (sign_pack hlt) (mag_pack hlt)

/-- A zero added to a finite word other than a zero changes nothing. -/
theorem fadd_isZero_right (ν : Word) (ha : isFinite a = true) (hza : isZero a = false) (hb : isZero b = true) :
    fadd ν a b = a := by
  have hsum : signedUnits a ≠ 0 := fun h => by rw [signedUnits_eq_zero, hza] at h; exact Bool.false_ne_true h
  rw [fadd_of_finite ν ha (isFinite_of_isZero hb), signedUnits_eq_zero.2 hb, add_zero, if_neg hsum,
    pack_signedUnits ha hza]

theorem isZero_fadd (ν : Word) (ha : isZero a = true) (hb : isZero b = true) : isZero (fadd ν a b) = true := by
  rw [fadd_of_finite ν (isFinite_of_isZero ha) (isFinite_of_isZero hb), signedUnits_eq_zero.2 ha,
    signedUnits_eq_zero.2 hb, if_pos (add_zero 0), isZero_pack_zero]

theorem isZero_fneg : isZero (fneg a) = isZero a := by rw [isZero, isZero, mag_fneg]

theorem isZero_fsub (ν : Word) (ha : isZero a = true) (hb : isZero b = true) : isZero (fsub ν a b) = true :=
  isZero_fadd ν ha (isZero_fneg.trans hb)

/-- The product of 1 with a finite word is that word, zeros with their sign too. -/
theorem fmul_one_left (ν : Word) (h : isFinite a = true) : fmul ν one a = a := by
  have hm := mag_lt_of_isFinite h
  have hlt : mag a < 2 ^ 31 := hm.trans (by decide)
  have hround : roundMag (units one * units a) (2 ^ 149) = mag a := by
    have hscale := roundMag_mul_left (c := 2 ^ 149) (by positivity) (units a) 1
    rwa [mul_one, units_eq a, roundMag_magUnits, min_eq_left hm.le, ← units_one] at hscale
  rw [fmul_of_finite ν (by decide) h, hround, show sign one = false from rfl, Bool.false_bne]
  exact eq_of_sign_mag (sign_pack hlt) (mag_pack hlt)

/-- The product of a zero with a finite word is a zero. -/
theorem isZero_fmul (ν : Word) (ha : isZero a = true) (hb : isFinite b = true) : isZero (fmul ν a b) = true := by
  have hround : roundMag (units a * units b) (2 ^ 149) = 0 := by
    rw [units_eq_zero.2 ha, zero_mul]
    decide
  rw [fmul_of_finite ν (isFinite_of_isZero ha) hb, hround, isZero_pack_zero]

/-- The product of a zero with a word that is not finite is a NaN. -/
theorem isNaN_fmul_of_isZero (ν : Word) (ha : isZero a = true) (hb : isFinite b = false) :
    isNaN (fmul ν a b) = true := by
  cases hn : isNaN b with
  | true =>
    obtain ⟨-, -, hmul, -⟩ := nan_operand (ν := ν) (a := a) (.inr hn)
    exact hmul
  | false =>
    cases hi : isInf b with
    | true => exact (inf_mul_zero hi ha).2
    | false => exact absurd (hb.symm.trans (isFinite_of_not hn hi)) Bool.false_ne_true

theorem isNaN_fadd_left (ν : Word) (h : isNaN a = true) : isNaN (fadd ν a b) = true :=
  (nan_operand (.inl h)).1

theorem isNaN_fsub_left (ν : Word) (h : isNaN a = true) : isNaN (fsub ν a b) = true := isNaN_fadd_left ν h

/-- Zeros compare equal, whatever their signs (R15). -/
theorem feq_of_isZero (ha : isZero a = true) (hb : isZero b = true) : feq a b = true := by
  have hkey {w : Word} (hw : isZero w = true) : key w = 0 := by simp [key, mag_eq_zero.2 hw]
  rw [feq_iff (isNaN_of_isFinite (isFinite_of_isZero ha)) (isNaN_of_isFinite (isFinite_of_isZero hb)), hkey ha, hkey hb]

theorem feq_self (h : isFinite a = true) : feq a a = true :=
  (feq_iff (isNaN_of_isFinite h) (isNaN_of_isFinite h)).2 rfl

end Finite

end Sys2Proof.Machine.F32
end

section
/-! Audio processing: the chain on a sample, SMP and BLKEND (R210 to R225). -/

namespace Sys2Proof.Machine

open F32

/-! ### An identity stage (R218) -/

section IdentityStage

variable (ν : Nat → Word) {x z1 z2 : Word}

/-- The output is the sample plus the first delay word, since the factor is 1. -/
theorem biquad_ident_output (z1 z2 : Word) (hx : isFinite x = true) :
    (biquad ν Coef.ident x z1 z2).1 = fadd (ν 1) x z1 :=
  congrArg (fadd (ν 1) · z1) (fmul_one_left (ν 0) hx)

/-- The delay words of a finite sample and a finite output are zeros: every factor in them is 0. -/
theorem isZero_biquad_ident (hx : isFinite x = true) (hy : isFinite (biquad ν Coef.ident x z1 z2).1 = true)
    (hz2 : isZero z2 = true) :
    isZero (biquad ν Coef.ident x z1 z2).2.1 = true ∧ isZero (biquad ν Coef.ident x z1 z2).2.2 = true := by
  have hzero : isZero 0#32 = true := by decide
  have hdiff (i j k : Nat) : isZero (fsub (ν i) (fmul (ν j) 0#32 x) (fmul (ν k) 0#32
      (biquad ν Coef.ident x z1 z2).1)) = true :=
    isZero_fsub _ (isZero_fmul _ hzero hx) (isZero_fmul _ hzero hy)
  exact ⟨isZero_fadd _ (hdiff 4 2 3) hz2, hdiff 8 6 7⟩

/-- A sample that is not finite has no product with 0, so the delay words are NaN. -/
theorem isNaN_biquad_ident (z1 z2 : Word) (hx : isFinite x = false) :
    isNaN (biquad ν Coef.ident x z1 z2).2.1 = true ∧ isNaN (biquad ν Coef.ident x z1 z2).2.2 = true := by
  have hprod (j : Nat) : isNaN (fmul (ν j) 0#32 x) = true := isNaN_fmul_of_isZero _ (by decide) hx
  exact ⟨isNaN_fadd_left _ (isNaN_fsub_left _ (hprod 2)), isNaN_fsub_left _ (hprod 6)⟩

end IdentityStage

/-- Settles O28: a factor 1 and an added zero keep the sample, factors 0 keep zeros, except of a word that is not
finite. -/
theorem identityStageReturnsItsInput : Obligations.IdentityStageReturnsItsInput := by
  intro ν x z1 z2 r
  refine ⟨fun hx hz1 hz2 => ?_, isNaN_biquad_ident ν z1 z2⟩
  have hout : r.1 = fadd (ν 1) x z1 := biquad_ident_output ν z1 z2 hx
  cases hz : isZero x with
  | true =>
    have hzero : isZero r.1 = true := hout ▸ isZero_fadd _ hz hz1
    exact ⟨fun h => absurd h.symm Bool.false_ne_true, fun _ => hzero, feq_of_isZero hzero hz,
      isZero_biquad_ident ν hx (isFinite_of_isZero hzero) hz2⟩
  | false =>
    have hsame : r.1 = x := hout.trans (fadd_isZero_right _ hx hz hz1)
    exact ⟨fun _ => hsame, fun h => absurd h Bool.false_ne_true, by rw [hsame, feq_self hx],
      isZero_biquad_ident ν hx (hsame.symm ▸ hx) hz2⟩

/-! ### The chain (R212, R216) -/

section Chain

variable (ν : Nat → Word) (k : Chan) (g : ChanCfg)

/-- The configuration runs the stage: neither its position nor the stage itself is bypassed (R216). -/
def ChanCfg.runs (t : Fin 9) : Bool := !g.posByp.get (positionOfStage t) && !g.stageByp t

theorem enabledStages_eq : enabledStages g = (List.finRange 9).filter g.runs := rfl

theorem enabledStages_eq_nil (h : ∀ u, g.posByp.get (positionOfStage u) = true ∨ g.stageByp u = true) :
    enabledStages g = [] := by
  refine List.filter_eq_nil_iff.2 fun u _ => ?_
  obtain hp | ht := h u
  · simp [hp]
  · simp [ht]

theorem runStage_eq (f : Signal) (t : Fin 9) :
    runStage ν k g f t = if g.stageByp t = true then f else stageOn ν k g f t := rfl

theorem positionOfStage_of_mem {p : Fin 3} {t : Fin 9} (h : t ∈ stagesOf p) : positionOfStage t = p := by
  revert p t
  decide

/-- The processing order of R212 goes through the positions in turn. -/
theorem finRange_eq_flatMap_stagesOf : List.finRange 9 = [0, 1, 2].flatMap stagesOf := by decide

/-- A chain position runs those of its stages that the configuration runs, in order. -/
theorem runPosition_eq_foldl (f : Signal) (p : Fin 3) :
    runPosition ν k g f p = ((stagesOf p).filter g.runs).foldl (stageOn ν k g) f := by
  unfold runPosition
  cases hp : g.posByp.get p with
  | true =>
    have hnone : (stagesOf p).filter g.runs = [] := List.filter_eq_nil_iff.2 fun t ht => by
      simp [ChanCfg.runs, positionOfStage_of_mem ht, hp]
    rw [hnone, if_pos rfl, List.foldl_nil]
  | false =>
    rw [if_neg Bool.false_ne_true, List.foldl_filter]
    refine List.foldl_ext _ _ _ fun f t ht => ?_
    rw [runStage_eq, ChanCfg.runs, positionOfStage_of_mem ht, hp]
    cases g.stageByp t <;> rfl

/-- The chain runs the enabled stages in processing order. -/
theorem runChain_eq_foldl (x : Word) :
    runChain ν k g x = (enabledStages g).foldl (stageOn ν k g) ⟨x, k.z1, k.z2⟩ := by
  rw [enabledStages_eq, finRange_eq_flatMap_stagesOf, List.filter_flatMap, List.foldl_flatMap, runChain]
  exact List.foldl_ext _ _ _ fun f p _ => runPosition_eq_foldl ν k g f p

/-- Stages leave the delay words of every other stage alone. -/
theorem delays_foldl_stageOn {u : Fin 9} (l : List (Fin 9)) (hu : u ∉ l) (f : Signal) :
    (l.foldl (stageOn ν k g) f).z1.get u = f.z1.get u ∧ (l.foldl (stageOn ν k g) f).z2.get u = f.z2.get u := by
  induction l generalizing f with
  | nil => exact ⟨rfl, rfl⟩
  | cons t l ih =>
    obtain ⟨hut, hul⟩ := not_or.1 (mt List.mem_cons.2 hu)
    obtain ⟨h1, h2⟩ := ih hul (stageOn ν k g f t)
    exact ⟨h1.trans ((vector_get_set _ _ _ _).trans (if_neg hut)),
      h2.trans ((vector_get_set _ _ _ _).trans (if_neg hut))⟩

end Chain

/-! ### SMP (R216, R219) -/

/-- The signal at the end of the chain for sample `x` of channel `c`, in the active configuration. -/
def State.chained (s : State) (c : Channel) (x : Word) : Signal := runChain s.nan (s.chan c) (s.cfgAct.chan c) x

theorem State.chained_eq_foldl (s : State) (c : Channel) (x : Word) :
    s.chained c x = (enabledStages (s.cfgAct.chan c)).foldl (stageOn s.nan (s.chan c) (s.cfgAct.chan c))
      ⟨x, (s.chan c).z1, (s.chan c).z2⟩ := runChain_eq_foldl _ _ _ _

/-- The state SMP leaves when the chain ends with the signal `f`. -/
def State.sampled (s : State) (c : Channel) (f : Signal) : State :=
  (s.setChan c { s.chan c with
    z1 := f.z1, z2 := f.z2, slot := (s.chan c).tap s.config s.pushEn f.v
    smpCnt := (s.chan c).smpCnt + 1#16 }).answered .ok f.v

section Sampled

variable (s : State) (c : Channel) (f : Signal)

theorem State.chan_sampled : (s.sampled c f).chan c = { s.chan c with
    z1 := f.z1, z2 := f.z2, slot := (s.chan c).tap s.config s.pushEn f.v, smpCnt := (s.chan c).smpCnt + 1#16 } :=
  State.chan_setChan_self _ _ _

theorem State.chan_sampled_ne {d : Channel} (h : d ≠ c) : (s.sampled c f).chan d = s.chan d :=
  State.chan_setChan_ne _ _ h

theorem State.sampled_eq : s.sampled c f = { s with
    answer := some ⟨.ok, f.v⟩
    chans := s.chans.set c { s.chan c with
      z1 := f.z1, z2 := f.z2, slot := ((s.sampled c f).chan c).slot, smpCnt := (s.chan c).smpCnt + 1#16 } } := by
  rw [State.chan_sampled]
  rfl

/-- A read of the ring after SMP on a pushed block. -/
theorem State.peek_slot_sampled (hpush : s.pushEn = true) (i : Nat) : (s.sampled c f).peek .slot c i
    = if i = slotIndex s.config (s.chan c).wrIdx (s.chan c).smpCnt.toNat then some f.v else s.peek .slot c i := by
  simp only [State.peek, State.memory, State.chan_sampled, Chan.tap, if_pos hpush, Memory.read_write]

/-- SMP on a pushed block stores one word of the ring and nothing else. -/
theorem State.sameMemoryBut_sampled (hpush : s.pushEn = true) : SameMemoryBut s (s.sampled c f) .slot c fun i =>
    i = slotIndex s.config (s.chan c).wrIdx (s.chan c).smpCnt.toNat := by
  intro m d i hi
  by_cases hd : d = c
  · subst hd
    cases m with
    | slot => rw [State.peek_slot_sampled s d f hpush, if_neg fun h => hi ⟨rfl, rfl, h⟩]
    | popBuf => simp only [State.peek, State.memory, State.chan_sampled]
    | db => simp only [State.peek, State.memory, State.chan_sampled]
    | pbuf => simp only [State.peek, State.memory, State.chan_sampled]
  · cases m <;> simp only [State.peek, State.memory, State.chan_sampled_ne s c f hd]

/-- SMP on a block that is not pushed stores no word. -/
theorem State.sameMemory_sampled (hpush : s.pushEn = false) : SameMemory s (s.sampled c f) :=
  .of_memory fun d m => by
    by_cases hd : d = c
    · subst hd
      have htap : (s.chan d).tap s.config s.pushEn f.v = (s.chan d).slot := by
        rw [Chan.tap, hpush, if_neg Bool.false_ne_true]
      cases m <;> simp only [State.memory, State.chan_sampled, htap]
    · cases m <;> simp only [State.memory, State.chan_sampled_ne s c f hd]

end Sampled

/-- SMP on an open block with samples to come (R216). -/
theorem execSmp_next {s : State} {c : Channel} (x : Word) (hp : s.prepared = true) (hb : s.inBlock = true)
    (hcnt : (s.chan c).smpCnt.toNat < s.rBlk.toNat) :
    execSmp c.code x s = .next (s.sampled c (s.chained c x)) :=
  (withChannel_code c s _).trans <| (require_of hp _ _ _).trans <|
    require_of (Bool.and_eq_true_iff.2 ⟨hb, decide_eq_true hcnt⟩) _ _ _

/-- Settles O26: the chain is the enabled stages in order, and SMP stores its output. -/
theorem smpCompletes : Obligations.SmpCompletes := by
  intro s c x hp hb hcnt k g f
  have hexec := execSmp_next x hp hb hcnt
  rw [State.chained_eq_foldl] at hexec
  refine ⟨s.sampled c f, hexec, s.sampled_eq c f, fun u hu => delays_foldl_stageOn s.nan k g _ hu _,
    s.sameMemory_sampled c f, fun hpush => ⟨?_, s.sameMemoryBut_sampled c f hpush⟩⟩
  rw [State.peek_slot_sampled s c f hpush, if_pos rfl]

/-- Settles O27: no stage is enabled, so the chain hands on the sample. -/
theorem smpBypassedIsIdentity : Obligations.SmpBypassedIsIdentity := by
  intro s c x hp hb hcnt hbypassed
  have hexec := execSmp_next x hp hb hcnt
  rw [State.chained_eq_foldl, enabledStages_eq_nil _ hbypassed, List.foldl_nil] at hexec
  refine ⟨_, hexec, rfl, ?_, ?_⟩ <;> rw [State.chan_sampled]

/-! ### The two channels (R223) -/

/-- A sample of one channel leaves what the chain of the other one reads. -/
theorem State.chained_sampled_ne (s : State) {c d : Channel} (f : Signal) (y : Word) (h : d ≠ c) :
    (s.sampled c f).chained d y = s.chained d y := by
  simp only [State.chained, State.chan_sampled_ne s c f h]
  rfl

/-- Samples of the two channels change different parts of the state; the later one is in the answer lanes. -/
theorem State.sampled_right_left (s : State) (l r : Signal) :
    (s.sampled .right r).sampled .left l = { (s.sampled .left l).sampled .right r with
      answer := (s.sampled .left l).answer } := rfl

/-- A sample of one channel, after one of the other channel, completes as it would before it. -/
theorem execSmp_next_after {s : State} {c d : Channel} (h : d ≠ c) (f : Signal) (y : Word) (hp : s.prepared = true)
    (hb : s.inBlock = true) (hcnt : (s.chan d).smpCnt.toNat < s.rBlk.toNat) :
    execSmp d.code y (s.sampled c f) = .next ((s.sampled c f).sampled d (s.chained d y)) := by
  rw [← State.chained_sampled_ne s f y h]
  refine execSmp_next y hp hb ?_
  rwa [State.chan_sampled_ne s c f h]

/-- Settles O29: the chain of each channel reads nothing that a sample of the other one changes. -/
theorem channelsAreIndependent : Obligations.ChannelsAreIndependent := by
  intro s x y hp hb hleft hright
  exact ⟨s.sampled .left (s.chained .left x), s.sampled .right (s.chained .right y), _, _,
    execSmp_next (c := .left) x hp hb hleft, execSmp_next_after (d := .right) (by decide) _ y hp hb hright,
    execSmp_next (c := .right) y hp hb hright, execSmp_next_after (d := .left) (by decide) _ x hp hb hleft,
    rfl, rfl, s.sampled_right_left _ _⟩

/-! ### BLKEND (R220) -/

/-- The state BLKEND leaves: the block is closed, and both rings have one more slot when it was pushed. -/
def State.closed (s : State) : State :=
  ({ s with
    inBlock := false
    chans := if s.pushEn then s.chans.map fun k => { k with wrIdx := k.wrIdx + 1#32 } else s.chans } :
      State).answered .ok 0#32

theorem State.chan_closed (s : State) (c : Channel) : s.closed.chan c = { s.chan c with
    wrIdx := if s.pushEn = true then (s.chan c).wrIdx + 1#32 else (s.chan c).wrIdx } := by
  unfold State.closed State.chan
  cases s.pushEn
  · rfl
  · exact Pair.get_map _ _ _

theorem State.sameMemory_closed (s : State) : SameMemory s s.closed :=
  .of_memory fun c m => by cases m <;> simp only [State.memory, State.chan_closed]

/-- The condition of R220: an open block with all its samples on both channels. -/
theorem State.full_iff (s : State) :
    (s.inBlock && s.chans.left.smpCnt == s.rBlk && s.chans.right.smpCnt == s.rBlk) = true
      ↔ s.inBlock = true ∧ s.chans.left.smpCnt = s.rBlk ∧ s.chans.right.smpCnt = s.rBlk := by
  rw [Bool.and_eq_true, Bool.and_eq_true, beq_iff_eq, beq_iff_eq, and_assoc]

/-- Settles O30: BLKEND leaves `closed` when both channels have all samples, and refuses otherwise. -/
theorem blkendCompletes : Obligations.BlkendCompletes := by
  intro s
  refine ⟨fun hp hb hleft hright => ⟨s.closed, ?_, rfl, s.chan_closed, s.sameMemory_closed⟩,
    fun hp => .of_exec (require_of_not hp _ _ _), fun hp hshort => .of_exec ?_⟩
  · exact (require_of hp _ _ _).trans (require_of (s.full_iff.2 ⟨hb, hleft, hright⟩) _ _ _)
  · refine (require_of hp _ _ _).trans (require_of_not (Bool.eq_false_iff.2 fun hfull => ?_) _ _ _)
    obtain ⟨hb, hleft, hright⟩ := s.full_iff.1 hfull
    obtain h | h | h := hshort
    exacts [Bool.false_ne_true (h.symm.trans hb), h hleft, h hright]

end Sys2Proof.Machine
end

section
/-! The consumer side of the sample FIFO: FSNAP, FAVAIL, FPOPB, FRD and FPOPE (R248 to R253). -/

namespace Sys2Proof.Machine

/-! ### The memories of a replaced channel (R90) -/

/-- The words of a memory of this channel, by name (R90). -/
def Chan.memory (k : Chan) : MemoryName → Memory
  | .slot => k.slot
  | .popBuf => k.popBuf
  | .db => k.db
  | .pbuf => k.pbuf

theorem State.memory_eq (s : State) (c : Channel) (m : MemoryName) : s.memory c m = (s.chan c).memory m := by
  cases m <;> rfl

section Replaced

variable {s : State} {c : Channel} {k : Chan}

/-- Replacing a channel by one with the same memories stores no word. -/
theorem sameMemory_setChan (hk : k.memory = (s.chan c).memory) (st : Status) (w : Word) :
    SameMemory s ((s.setChan c k).answered st w) :=
  .of_memory fun d m => by
    rw [State.memory_answered, State.memory_eq, State.memory_eq]
    exact State.chan_setChan_rel (R := fun k k' => k'.memory m = k.memory m) (fun _ => rfl)
      fun hd => hd ▸ congrFun hk m

/-- Replacing a channel stores the words that its replacement stores. -/
theorem sameMemoryBut_setChan {m : MemoryName} {stored : Nat → Prop}
    (hk : ∀ m' i, ¬(m' = m ∧ stored i) → Memory.read (k.memory m') i = Memory.read ((s.chan c).memory m') i)
    (st : Status) (w : Word) : SameMemoryBut s ((s.setChan c k).answered st w) m c stored := by
  intro m' d i hi
  rw [State.peek_answered, State.peek, State.peek, State.memory_eq, State.memory_eq]
  refine State.chan_setChan_rel (R := fun k k' => Memory.read (k'.memory m') i = Memory.read (k.memory m') i)
    (fun _ => rfl) fun hd => ?_
  rw [hd]
  exact hk m' i fun ⟨hm, hs⟩ => hi ⟨hm, hd, hs⟩

end Replaced

/-! ### The snapshot handshake (R64) -/

/-- The condition of R248, R250, R251 and R253 that no snapshot is pending. -/
theorem Chan.not_snapPending_of_eq {k : Chan} (h : k.sReq = k.sAckN) : (!k.snapPending) = true := by
  rw [Chan.snapPending_eq_false.2 h, Bool.not_false]

theorem Chan.not_snapPending_of_ne {k : Chan} (h : k.sReq ≠ k.sAckN) : (!k.snapPending) = false := by
  rw [Chan.snapPending, bne_iff_ne.2 h, Bool.not_true]

/-! ### FSNAP and FAVAIL (R248, R250) -/

/-- The usable capacity of any ring, at most the largest word (R259). -/
theorem toNat_usableBlocks_eq_min (κ : Config) : (usableBlocks κ).toNat = min (2 ^ 32 - 1) (κ.fifoCap - 1) := by
  have hpos : 0 < κ.fifoCap := Nat.two_pow_pos κ.log2Cap
  rw [usableBlocks, BitVec.toNat_ofNat]
  obtain hle | hge := le_total κ.log2Cap 32
  · have hcap : κ.fifoCap ≤ 2 ^ 32 := Nat.pow_le_pow_right (by decide) hle
    omega
  · obtain ⟨n, hn⟩ : 2 ^ 32 ∣ κ.fifoCap := Nat.pow_dvd_pow 2 hge
    omega

/-- The blocks FAVAIL reports: those between the snapshot and the read index, up to the usable capacity (R250). -/
def Chan.available (κ : Config) (k : Chan) : Word :=
  if k.unread.toNat ≤ (usableBlocks κ).toNat then k.unread else usableBlocks κ

theorem Chan.toNat_available (κ : Config) (k : Chan) :
    (k.available κ).toNat = min k.unread.toNat (κ.fifoCap - 1) := by
  have hmost := toNat_usableBlocks_eq_min κ
  have hword := k.unread.isLt
  unfold Chan.available
  split <;> omega

theorem execFsnap_next {s : State} {c : Channel} (hidle : (s.chan c).sReq = (s.chan c).sAckN) :
    execFsnap c.code s = .next ((s.setChan c { s.chan c with
      sReq := !(s.chan c).sReq, snapPost := true }).answered .ok 0#32) :=
  (withChannel_code c s _).trans <| require_of (Chan.not_snapPending_of_eq hidle) _ _ _

theorem execFavail_next {s : State} {c : Channel} (hidle : (s.chan c).sReq = (s.chan c).sAckN) :
    execFavail c.code s = .next (s.answered .ok ((s.chan c).available s.config)) :=
  (withChannel_code c s _).trans <| require_of (Chan.not_snapPending_of_eq hidle) _ _ _

/-- Settles O31: both commands ask only for an idle handshake, and what FAVAIL answers is a minimum also of a ring
larger than a word can count. -/
theorem fsnapAndFavailComplete : Obligations.FsnapAndFavailComplete := by
  intro s c k
  refine ⟨fun hidle => ⟨⟨_, execFsnap_next hidle, sameMemory_setChan (by rfl) _ _, rfl⟩,
    _, _, execFavail_next hidle, onlyAnswer_answered s _ _, rfl, Chan.toNat_available _ _⟩, fun hpend => ⟨?_, ?_⟩⟩
  all_goals exact .of_exec <| (withChannel_code c s _).trans <|
    require_of_not (Chan.not_snapPending_of_ne hpend) _ _ _

/-! ### FPOPB (R251) -/

/-- FPOPB past the guards that ask for no block. -/
theorem execFpopb_ready {s : State} {c : Channel} (hp : s.prepared = true) (ha : s.settings.sAnen = 1#1)
    (hclosed : (s.chan c).popActive = false) (hidle : (s.chan c).sReq = (s.chan c).sAckN) :
    execFpopb c.code s = require ((s.chan c).unread != 0#32) .empty s
      (if s.config.fifoCap ≤ (s.chan c).unread.toNat then
        .next ((s.setChan c { s.chan c with rdIdx := (s.chan c).skipTarget s.config }).answered .overrun
          ((s.chan c).unread - usableBlocks s.config))
      else
        .next ((s.setChan c { s.chan c with
          popActive := true, popCnt := 0#16, snapPost := false, popValid := false }).answered .ok
          (s.chan c).unread)) :=
  (withChannel_code c s _).trans <| (withAnalyzer_on hp ha _).trans <|
    (require_of (by rw [hclosed, Bool.not_false]) _ _ _).trans <|
    require_of (Chan.not_snapPending_of_eq hidle) _ _ _

/-- The condition of R251 that a block is unread. -/
theorem Chan.unread_bne_zero {k : Chan} (h : 1 ≤ k.unread.toNat) : (k.unread != 0#32) = true :=
  bne_iff_ne.2 fun hz => absurd h (by rw [hz]; decide)

/-- Settles O32: behind the guards FPOPB goes by the number of unread blocks. -/
theorem fpopbCompletes : Obligations.FpopbCompletes := by
  intro s c k a most hp ha hclosed hidle
  have hexec := execFpopb_ready hp ha hclosed hidle
  have hcap : 1 ≤ s.config.fifoCap := Nat.one_le_two_pow
  have hfound (hpos : 1 ≤ a.toNat) := hexec.trans (require_of (Chan.unread_bne_zero hpos) _ _ _)
  have hlt (hle : a.toNat ≤ s.config.fifoCap - 1) : a.toNat < s.config.fifoCap := Nat.lt_of_le_sub_one hcap hle
  exact ⟨fun hpos hle => ⟨_, (hfound hpos).trans (if_neg (hlt hle).not_ge), sameMemory_setChan (by rfl) _ _, rfl⟩,
    fun hzero => .of_exec <| hexec.trans <|
      require_of_not (bne_eq_false_iff_eq.2 (BitVec.eq_of_toNat_eq hzero)) _ _ _,
    fun hover => ⟨_, (hfound (hcap.trans hover)).trans (if_pos hover), sameMemory_setChan (by rfl) _ _, rfl⟩⟩

/-! ### FRD (R252) -/

/-- The state FRD leaves for the word `w` of the slot. -/
def State.wordRead (s : State) (c : Channel) (w : Word) : State :=
  (s.setChan c { s.chan c with
    popBuf := Memory.write (s.chan c).popBuf (s.chan c).popCnt.toNat w
    popCnt := (s.chan c).popCnt + 1#16, snapPost := false }).answered .ok w

section Read

variable (s : State) (c : Channel) (w : Word)

theorem State.chan_wordRead : (s.wordRead c w).chan c = { s.chan c with
    popBuf := Memory.write (s.chan c).popBuf (s.chan c).popCnt.toNat w
    popCnt := (s.chan c).popCnt + 1#16, snapPost := false } := State.chan_setChan_self _ _ _

theorem State.wordRead_eq : s.wordRead c w = { s with
    answer := some ⟨.ok, w⟩
    chans := s.chans.set c { s.chan c with
      popBuf := ((s.wordRead c w).chan c).popBuf, popCnt := (s.chan c).popCnt + 1#16, snapPost := false } } := by
  rw [State.chan_wordRead]
  rfl

theorem State.peek_popBuf_wordRead : (s.wordRead c w).peek .popBuf c (s.chan c).popCnt.toNat = some w := by
  simp only [State.peek, State.memory, State.chan_wordRead, Memory.read_write_self]

/-- FRD stores the next word of the pop buffer and no other. -/
theorem State.sameMemoryBut_wordRead :
    SameMemoryBut s (s.wordRead c w) .popBuf c fun i => i = (s.chan c).popCnt.toNat :=
  sameMemoryBut_setChan (fun m i hi => by
    cases m with
    | popBuf => exact Memory.read_write_ne _ _ fun h => hi ⟨rfl, h⟩
    | slot => rfl
    | db => rfl
    | pbuf => rfl) _ _

end Read

theorem execFrd_next {s : State} {c : Channel} {w : Word} (ha : (s.chan c).popActive = true)
    (hcnt : (s.chan c).popCnt.toNat < s.rBlk.toNat)
    (hw : s.peek .slot c (slotIndex s.config (s.chan c).rdIdx (s.chan c).popCnt.toNat) = some w) :
    execFrd c.code s = .next (s.wordRead c w) :=
  (withChannel_code c s _).trans <|
    (require_of (Bool.and_eq_true_iff.2 ⟨ha, decide_eq_true hcnt⟩) _ _ _).trans <|
    congrArg (withWord .slot · _) hw

/-- Settles O33: in an open pop with words to come FRD leaves `wordRead`. -/
theorem frdCompletes : Obligations.FrdCompletes := by
  intro s c k
  refine ⟨fun w ha hcnt hw => ⟨s.wordRead c w, execFrd_next ha hcnt hw, s.wordRead_eq c w,
    s.peek_popBuf_wordRead c w, s.sameMemoryBut_wordRead c w⟩, fun hend => .of_exec ?_⟩
  refine (withChannel_code c s _).trans <| require_of_not (Bool.and_eq_false_iff.2 ?_) _ _ _
  exact hend.imp id fun hall => decide_eq_false hall.not_gt

/-! ### FPOPE (R253) -/

/-- The condition of R253 on the pop: open, read whole, and a snapshot asked for since. -/
def Chan.Whole (k : Chan) (blk : BitVec 16) : Prop := k.popActive = true ∧ k.popCnt = blk ∧ k.snapPost = true

theorem Chan.whole_iff {k : Chan} {blk : BitVec 16} :
    (k.popActive && k.popCnt == blk && k.snapPost) = true ↔ k.Whole blk := by
  rw [Bool.and_eq_true, Bool.and_eq_true, beq_iff_eq, and_assoc, Chan.Whole]

/-- FPOPE of a pop read whole, with a snapshot asked for since. -/
theorem execFpope_whole {s : State} {c : Channel} (hwhole : (s.chan c).Whole s.rBlk) :
    execFpope c.code s = require (!(s.chan c).snapPending) .busy s
      (if (s.chan c).unread.toNat ≤ s.config.fifoCap - 1 then
        .next ((s.setChan c { s.chan c with
          popActive := false, rdIdx := (s.chan c).rdIdx + 1#32, popValid := true }).answered .ok
          ((s.chan c).unread - 1#32))
      else
        .next ((s.setChan c { s.chan c with
          popActive := false, rdIdx := (s.chan c).skipTarget s.config, popValid := false }).answered .overrun
          ((s.chan c).unread - usableBlocks s.config))) :=
  (withChannel_code c s _).trans <| require_of (Chan.whole_iff.2 hwhole) _ _ _

/-- Settles O34: with the snapshot complete FPOPE goes by the number of unread blocks. -/
theorem fpopeCompletes : Obligations.FpopeCompletes := by
  intro s c k a most
  refine ⟨fun ha hcnt hpost hidle => ?_, fun hpart => .of_exec ?_, fun ha hcnt hpost hpend => .of_exec ?_⟩
  · have hexec := (execFpope_whole ⟨ha, hcnt, hpost⟩).trans (require_of (Chan.not_snapPending_of_eq hidle) _ _ _)
    exact ⟨fun hle => ⟨_, hexec.trans (if_pos hle), sameMemory_setChan (by rfl) _ _, rfl⟩,
      fun hover => ⟨_, hexec.trans (if_neg hover.not_ge), sameMemory_setChan (by rfl) _ _, rfl⟩⟩
  · refine (withChannel_code c s _).trans (require_of_not (Bool.eq_false_iff.2 fun h => ?_) _ _ _)
    obtain ⟨ha, hcnt, hpost⟩ := Chan.whole_iff.1 h
    obtain h | h | h := hpart
    exacts [Bool.false_ne_true (h.symm.trans ha), h hcnt, Bool.false_ne_true (h.symm.trans hpost)]
  · exact (execFpope_whole ⟨ha, hcnt, hpost⟩).trans (require_of_not (Chan.not_snapPending_of_ne hpend) _ _ _)

end Sys2Proof.Machine
end

section
/-! The default transform index by index, and the transform of silence (R288 to R292). -/

namespace Sys2Proof.Machine

open F32 Reference

/-! ### The butterfly network (R290) -/

/-- Consecutive blocks of a common length are one list by quotient and remainder. -/
theorem flatMap_range_blocks {α : Type} (f : Nat → Nat → α) (n m : Nat) :
    ((List.range n).flatMap fun g => (List.range m).map (f g))
      = (List.range (n * m)).map fun i => f (i / m) (i % m) := by
  induction n with
  | zero => simp
  | succ n ih =>
    have hlast : ∀ j ∈ List.range m, f n j = f ((n * m + j) / m) ((n * m + j) % m) := by
      intro j hj
      have hjm := List.mem_range.1 hj
      rw [Nat.mul_comm n m, Nat.mul_add_div (Nat.zero_lt_of_lt hjm), Nat.mul_add_mod, Nat.div_eq_of_lt hjm,
        Nat.mod_eq_of_lt hjm, Nat.add_zero]
    rw [List.range_succ, List.flatMap_append, ih, List.flatMap_singleton, Nat.succ_mul, List.range_add, List.map_append,
      List.map_map, List.map_congr_left hlast]
    rfl

/-- A block of a list given by its index. -/
theorem take_drop_map_range {α : Type} (x : Nat → α) {a m n : Nat} (h : a + m ≤ n) :
    (((List.range n).map x).drop a).take m = (List.range m).map fun j => x (a + j) := by
  obtain ⟨b, rfl⟩ := Nat.exists_eq_add_of_le h
  rw [Nat.add_assoc, List.range_add, List.map_append, List.drop_left' (by simp), List.map_map, List.range_add,
    List.map_append, List.take_left' (by simp)]
  rfl

/-- Value `j` of a group after its butterflies with the `h` twiddles `t` (R290). -/
def groupOut (ν : Word) (h : Nat) (t y : Nat → Cpx) (j : Nat) : Cpx :=
  if j < h then Cpx.add ν (y j) (twiddleMul ν (t j) (y (j + h)))
  else Cpx.sub ν (y (j - h)) (twiddleMul ν (t (j - h)) (y j))

theorem butterflies_map_range (ν : Word) (h : Nat) (t y : Nat → Cpx) :
    butterflies ν ((List.range h).map t) ((List.range (h + h)).map y)
      = (List.range (h + h)).map (groupOut ν h t y) := by
  have hlow : ∀ j ∈ List.range h, Cpx.add ν (y j) (twiddleMul ν (t j) (y (h + j))) = groupOut ν h t y j := by
    intro j hj
    rw [groupOut, if_pos (List.mem_range.1 hj), Nat.add_comm h j]
  have hhigh : ∀ j ∈ List.range h,
      Cpx.sub ν (y j) (twiddleMul ν (t j) (y (h + j))) = groupOut ν h t y (h + j) := by
    intro j _
    rw [groupOut, if_neg (by omega), Nat.add_sub_cancel_left]
  rw [butterflies, List.range_add, List.map_append, List.map_append, List.map_map, List.map_map, List.length_map,
    List.length_range, List.take_left' (by simp), List.drop_left' (by simp)]
  simp only [List.zipWith_map, List.zipWith_self, Function.comp_def]
  rw [List.map_congr_left hlow, List.map_congr_left hhigh]

/-- A pass of the default transform is the butterfly of R290 at every index. -/
theorem fftPass_map_range (κ : Config) (ν : Word) (x : Nat → Cpx) {p : Nat} (hp : p < κ.log2N) :
    fftPass κ ν ((List.range κ.fftN).map x) (p + 1) = (List.range κ.fftN).map (butterflyPass κ ν x (p + 1)) := by
  have hgroups : κ.fftN / 2 ^ (p + 1) * 2 ^ (p + 1) = κ.fftN := groups_mul_size κ hp
  have hsize : 2 ^ (p + 1) = 2 ^ p + 2 ^ p := by rw [pow_succ, mul_two]
  have hhalf : 2 ^ (p + 1) / 2 = 2 ^ p := by rw [pow_succ, Nat.mul_div_cancel _ two_pos]
  have hgroup : ∀ g ∈ List.range (κ.fftN / 2 ^ (p + 1)),
      butterflies ν ((List.range (2 ^ (p + 1) / 2)).map fun j => twiddleAt κ (j * (κ.fftN / 2 ^ (p + 1))))
        ((((List.range κ.fftN).map x).drop (g * 2 ^ (p + 1))).take (2 ^ (p + 1)))
      = (List.range (2 ^ (p + 1))).map (groupOut ν (2 ^ p) (fun j => twiddleAt κ (j * (κ.fftN / 2 ^ (p + 1))))
          fun j => x (g * 2 ^ (p + 1) + j)) := by
    intro g hg
    have hin : g * 2 ^ (p + 1) + 2 ^ (p + 1) ≤ κ.fftN := by
      rw [← Nat.succ_mul]
      exact (Nat.mul_le_mul_right _ (List.mem_range.1 hg)).trans_eq hgroups
    rw [take_drop_map_range x hin, hhalf, hsize, butterflies_map_range]
  have hindex : ∀ i ∈ List.range κ.fftN,
      groupOut ν (2 ^ p) (fun j => twiddleAt κ (j * (κ.fftN / 2 ^ (p + 1))))
        (fun j => x (i / 2 ^ (p + 1) * 2 ^ (p + 1) + j)) (i % 2 ^ (p + 1)) = butterflyPass κ ν x (p + 1) i := by
    intro i _
    have hsplit : i / 2 ^ (p + 1) * 2 ^ (p + 1) + i % 2 ^ (p + 1) = i := Nat.div_add_mod' i _
    simp only [groupOut, butterflyPass, Nat.add_sub_cancel, hsplit]
    split
    · rw [← Nat.add_assoc, hsplit]
    · rw [← Nat.add_sub_assoc (by omega), hsplit]
  rw [fftPass, List.flatMap_congr hgroup, flatMap_range_blocks, hgroups, List.map_congr_left hindex]

/-- The first `n` passes over the bit-reversed input (R290). -/
theorem foldl_fftPass (κ : Config) (ν : Word) (u : List Word) {n : Nat} (hn : n ≤ κ.log2N) :
    ((List.range n).map (· + 1)).foldl (fftPass κ ν)
        ((List.range κ.fftN).map fun i => (⟨u.getD (bitReverse κ.log2N i) zero, zero⟩ : Cpx))
      = (List.range κ.fftN).map (afterPasses κ ν (fun i => u.getD i 0#32) n) := by
  induction n with
  | zero => rfl
  | succ n ih =>
    rw [List.range_succ, List.map_append, List.foldl_append, ih (Nat.le_of_succ_le hn)]
    exact fftPass_map_range κ ν _ hn

theorem transform_eq_afterPasses {κ : Config} (ν : Word) (u : List Word) (h : κ.fft = .standard) :
    transform κ ν u = (List.range κ.fftN).map (afterPasses κ ν (fun n => u.getD n 0#32) κ.log2N) :=
  (transform_standard ν u h).trans (foldl_fftPass κ ν u le_rfl)

/-- Settles O37: each pass over the list is the butterfly at every index, so the passes agree by induction. -/
theorem transformFollowsButterflies : Obligations.TransformFollowsButterflies := by
  intro κ ν u h k hk
  rw [transform_eq_afterPasses ν u h, List.getElem?_map, List.getElem?_range hk, Option.map_some]

/-! ### Silence (R291, R292) -/

/-- Both components are zeros, of either sign. -/
def ZeroCpx (x : Cpx) : Prop := isZero x.re = true ∧ isZero x.im = true

theorem F32.fmul_comm (ν a b : Word) : fmul ν a b = fmul ν b a := by
  have hsign : (sign b != sign a) = (sign a != sign b) := bne_comm
  simp only [fmul, hsign, Bool.or_comm (isNaN b), Bool.or_comm (isInf b), Bool.or_comm (isZero b),
    Nat.mul_comm (units b)]

theorem twiddleAt_finite {κ : Config} (h : LegalConfig κ) (t : Nat) :
    isFinite (twiddleAt κ t).re = true ∧ isFinite (twiddleAt κ t).im = true := by
  rw [twiddleAt, List.getD_eq_getElem?_getD]
  cases hx : κ.tw[t]? with
  | none => exact ⟨by decide, by decide⟩
  | some x =>
    have hall := List.all_eq_true.1 h.tw.2 x (List.mem_of_getElem? hx)
    exact Bool.and_eq_true_iff.1 hall

/-- The product of a finite twiddle with a zero is a zero. -/
theorem ZeroCpx.twiddleMul {w b : Cpx} (ν : Word) (hw : isFinite w.re = true ∧ isFinite w.im = true)
    (hb : ZeroCpx b) : ZeroCpx (twiddleMul ν w b) := by
  have hzero {a c : Word} (ha : isFinite a = true) (hc : isZero c = true) : isZero (fmul ν a c) = true := by
    rw [fmul_comm]
    exact isZero_fmul ν hc ha
  obtain ⟨hre, him⟩ := hb
  exact ⟨isZero_fsub ν (hzero hw.1 hre) (hzero hw.2 him), isZero_fadd ν (hzero hw.1 him) (hzero hw.2 hre)⟩

theorem ZeroCpx.add {a b : Cpx} (ν : Word) (ha : ZeroCpx a) (hb : ZeroCpx b) : ZeroCpx (Cpx.add ν a b) :=
  ⟨isZero_fadd ν ha.1 hb.1, isZero_fadd ν ha.2 hb.2⟩

theorem ZeroCpx.sub {a b : Cpx} (ν : Word) (ha : ZeroCpx a) (hb : ZeroCpx b) : ZeroCpx (Cpx.sub ν a b) :=
  ⟨isZero_fsub ν ha.1 hb.1, isZero_fsub ν ha.2 hb.2⟩

/-- The butterflies of zeros are zeros, pass after pass. -/
theorem isZero_afterPasses {κ : Config} (h : LegalConfig κ) (ν : Word) {u : Nat → Word}
    (hu : ∀ i, isZero (u i) = true) (n i : Nat) : ZeroCpx (afterPasses κ ν u n i) := by
  induction n generalizing i with
  | zero => exact ⟨hu _, (by decide : isZero zero = true)⟩
  | succ n ih =>
    simp only [afterPasses, butterflyPass]
    split
    · exact (ih _).add ν ((ih _).twiddleMul ν (twiddleAt_finite h _))
    · exact (ih _).sub ν ((ih _).twiddleMul ν (twiddleAt_finite h _))

theorem isZero_getD {u : List Word} (hu : ∀ w ∈ u, isZero w = true) (i : Nat) : isZero (u.getD i 0#32) = true := by
  rw [List.getD_eq_getElem?_getD]
  cases hw : u[i]? with
  | none => decide
  | some w => exact hu w (List.mem_of_getElem? hw)

/-- P-FFT-ZERO (R291): either transform answers zeros for an input of zeros. -/
theorem isZero_transform {κ : Config} (h : LegalConfig κ) (ν : Word) {u : List Word}
    (hu : ∀ w ∈ u, isZero w = true) {x : Cpx} (hx : x ∈ transform κ ν u) : ZeroCpx x := by
  cases hc : κ.fft with
  | standard =>
    rw [transform_eq_afterPasses ν u hc] at hx
    obtain ⟨i, -, rfl⟩ := List.mem_map.1 hx
    exact isZero_afterPasses h ν (isZero_getD hu) _ _
  | other =>
    rw [transform_other ν u hc] at hx
    obtain ⟨k, -, rfl⟩ := List.mem_map.1 hx
    rw [otherFftAt, if_pos (List.all_eq_true.2 hu)]
    exact ⟨isZero_pack_zero _, isZero_pack_zero _⟩

/-- The window keeps silence (R285). -/
theorem isZero_windowed {κ : Config} (h : LegalConfig κ) (ν : Word) {roll : List Word}
    (hr : ∀ w ∈ roll, isZero w = true) : ∀ w ∈ List.zipWith (fmul ν) roll κ.win, isZero w = true := by
  intro w hw
  obtain ⟨i, hi, rfl⟩ := List.mem_iff_getElem.1 hw
  rw [List.getElem_zipWith]
  exact isZero_fmul ν (hr _ (List.getElem_mem _)) (List.all_eq_true.1 h.win.2 _ (List.getElem_mem _))

theorem isZero_binMagnitude (κ : Config) (ν : Word) {x : Cpx} (hx : ZeroCpx x) :
    isZero (binMagnitude κ ν x) = true := by
  obtain ⟨hre, him⟩ := hx
  have hsq {a : Word} (ha : isZero a = true) : isZero (fmul ν a a) = true := isZero_fmul ν ha (isFinite_of_isZero ha)
  have hsum := isZero_fadd ν (hsq hre) (hsq him)
  rw [binMagnitude, fsqrt_of_zero ν hsum]
  exact isZero_fmul ν hsum (isFinite_of_mag_le (by decide) (mag_scale_le κ))

theorem F32.key_of_isZero {w : Word} (h : isZero w = true) : key w = 0 := by
  simp [key, mag_eq_zero.2 h]

/-- A zero output reads the floor (R292). -/
theorem magDb_of_isZero (κ : Config) (ν floor : Word) {x : Cpx} (hx : ZeroCpx x) : magDb κ ν floor x = floor := by
  obtain h | ⟨-, hn, hpos, -, -⟩ := magDb_cases κ ν floor x
  · exact h
  · have hm := isZero_binMagnitude κ ν hx
    have hkey := (fgt_iff hn (by decide)).1 hpos
    rw [key_of_isZero hm] at hkey
    exact absurd hkey (lt_irrefl 0)

/-- Settles O39: the windowed silence is zeros, so are the outputs of either transform, and a zero reads the floor. -/
theorem silenceReadsTheFloor : Obligations.SilenceReadsTheFloor := by
  intro s c hp ha hn hκ hroll
  refine ⟨s.transformed c, execXform_next hp ha hn, fun n hlt => ?_⟩
  obtain ⟨x, hx, hd⟩ := s.peek_transformed c hlt
  rw [hd, magDb_of_isZero _ _ _ (isZero_transform hκ _ (isZero_windowed hκ _ hroll) (List.mem_of_getElem? hx))]

end Sys2Proof.Machine
end

section
/-! The commands of the analyzer and the path queue: ACCUM, XFORM, RDBIN, PUBLISH, PTAKE and PRD (R283 to R313). -/

namespace Sys2Proof.Machine

/-! ### ACCUM (R283) -/

/-- The state ACCUM leaves for the validated block (R283). -/
def State.accumulated (s : State) (c : Channel) (block : List Word) : State :=
  (s.setChan c { s.chan c with
    roll := (s.chan c).roll.drop s.rBlk.toNat ++ block, popValid := false, newAudio := true }).answered .ok 0#32

section Accumulated

variable (s : State) (c : Channel) (block : List Word)

theorem State.chan_accumulated : (s.accumulated c block).chan c = { s.chan c with
    roll := (s.chan c).roll.drop s.rBlk.toNat ++ block, popValid := false, newAudio := true } :=
  State.chan_setChan_self _ _ _

theorem State.roll_accumulated :
    ((s.accumulated c block).chan c).roll = (s.chan c).roll.drop s.rBlk.toNat ++ block := by
  rw [State.chan_accumulated]

theorem State.accumulated_eq : s.accumulated c block = { s with
    answer := some ⟨.ok, 0#32⟩
    chans := s.chans.set c { s.chan c with
      roll := ((s.accumulated c block).chan c).roll, popValid := false, newAudio := true } } := by
  rw [State.roll_accumulated]
  rfl

end Accumulated

theorem execAccum_next {s : State} {c : Channel} {block : List Word} (hp : s.prepared = true)
    (ha : s.settings.sAnen = 1#1) (hv : (s.chan c).popValid = true)
    (hblock : Memory.readRange (s.chan c).popBuf 0 s.rBlk.toNat = some block) :
    execAccum c.code s = .next (s.accumulated c block) :=
  (withChannel_code c s _).trans <| (withAnalyzer_on hp ha _).trans <| (require_of hv _ _ _).trans <|
    congrArg (withWords .popBuf · _) hblock

section Shift

variable {α : Type} {roll block : List α} {B N : Nat}

/-- Shifting left moves the words behind the first `B` to the front. -/
theorem getElem?_shift_old (hr : roll.length = N) {n : Nat} (h : n + B < N) :
    (roll.drop B ++ block)[n]? = roll[n + B]? := by
  rw [List.getElem?_append_left (by rw [List.length_drop]; omega), List.getElem?_drop, Nat.add_comm B n]

/-- The appended block stands at the end. -/
theorem getElem?_shift_new (hr : roll.length = N) (i : Nat) :
    (roll.drop B ++ block)[N - B + i]? = block[i]? := by
  have hlen : (roll.drop B).length = N - B := by rw [List.length_drop, hr]
  rw [List.getElem?_append_right (by omega), hlen, Nat.add_sub_cancel_left]

end Shift

/-- Settles O35: the written block can be read, and the shifted buffer is the old words and then the block. -/
theorem accumCompletes : Obligations.AccumCompletes := by
  intro s c k B N hp ha hv hr hB hw
  obtain ⟨block, hblock⟩ := Memory.readRange_isSome hw
  obtain ⟨hlen, hword⟩ := Memory.readRange_eq_some hblock
  refine ⟨s.accumulated c block, execAccum_next hp ha hv hblock, sameMemory_setChan (by rfl) _ _,
    s.accumulated_eq c block, ?_⟩
  rw [State.roll_accumulated]
  refine ⟨length_drop_append hr hlen hB, fun n hn => getElem?_shift_old hr hn, fun i hi => ?_⟩
  rw [getElem?_shift_new hr, ← hword i hi, Nat.zero_add]
  rfl

/-! ### XFORM (R285) -/

section Transformed

variable (s : State) (c : Channel)

theorem State.db_transformed : ((s.transformed c).chan c).db
    = Memory.writeFrom (s.chan c).db 0 (spectrum s.config (s.nan 0) s.settings.aFloor (s.chan c).roll) := by
  rw [State.transformed, State.chan_answered, State.chan_setChan_self]

theorem State.transformed_eq : s.transformed c = { s with
    answer := some ⟨.ok, 0#32⟩
    chans := s.chans.set c { s.chan c with
      db := ((s.transformed c).chan c).db, newAudio := false, dbValid := true } } := by
  rw [State.db_transformed]
  rfl

/-- XFORM stores the bins and no other word. -/
theorem State.sameMemoryBut_transformed : SameMemoryBut s (s.transformed c) .db c fun i => i < s.config.nBin :=
  sameMemoryBut_setChan (fun m i hi => by
    cases m with
    | db =>
      refine Memory.read_writeFrom_outside _ fun ⟨_, hlt⟩ => hi ⟨rfl, ?_⟩
      rwa [Nat.zero_add, length_spectrum] at hlt
    | slot => rfl
    | popBuf => rfl
    | pbuf => rfl) _ _

end Transformed

/-- Settles O36: XFORM leaves `transformed`, whose bins are those of the outputs of the transform. -/
theorem xformCompletes : Obligations.XformCompletes := by
  intro s c k hp ha hn
  exact ⟨s.transformed c, execXform_next hp ha hn, s.transformed_eq c, fun n hlt => s.peek_transformed c hlt,
    s.sameMemoryBut_transformed c⟩

/-! ### RDBIN and PRD (R293, R313) -/

section Reading

variable {s : State} {c : Channel} {imm : BitVec 16} {w : Word}

theorem execRdbin_next (hn : imm.toNat ≤ s.config.nBin - 1) (hv : (s.chan c).dbValid = true)
    (hw : s.peek .db c imm.toNat = some w) : execRdbin c.code imm s = .next (s.answered .ok w) :=
  (withChannel_code c s _).trans <| (require_of (decide_eq_true hn) _ _ _).trans <| (require_of hv _ _ _).trans <|
    congrArg (withWord .db · _) hw

theorem refuses_rdbin_operand (hn : s.config.nBin - 1 < imm.toNat) : Refuses (.rdbin c.code imm) s .operand :=
  .of_exec <| (withChannel_code c s _).trans <| require_of_not (decide_eq_false hn.not_ge) _ _ _

theorem execPrd_next (hv : (s.chan c).heldValid = true)
    (hn : imm.toNat < ((s.chan c).plen.get (s.chan c).pHeld).toNat)
    (hw : s.peek .pbuf c (pathIndex (s.chan c).pHeld imm.toNat) = some w) :
    execPrd c.code imm s = .next (s.answered .ok w) :=
  (withChannel_code c s _).trans <|
    (require_of (by rw [decide_eq_true hn, Bool.or_true]) _ _ _).trans <| (require_of hv _ _ _).trans <|
    congrArg (withWord .pbuf · _) hw

theorem refuses_prd_operand (hv : (s.chan c).heldValid = true)
    (hn : ((s.chan c).plen.get (s.chan c).pHeld).toNat ≤ imm.toNat) : Refuses (.prd c.code imm) s .operand :=
  .of_exec <| (withChannel_code c s _).trans <|
    require_of_not (by rw [hv, decide_eq_false hn.not_gt]; rfl) _ _ _

end Reading

/-- Settles O40: both commands bound the index, ask for the flag and answer the word. -/
theorem rdbinAndPrdComplete : Obligations.RdbinAndPrdComplete := by
  intro s c imm k
  exact ⟨fun w hn hv hw => ⟨_, execRdbin_next hn hv hw, rfl, onlyAnswer_answered s _ _⟩,
    refuses_rdbin_operand, fun hn hv => refuses_rdbin hv hn,
    fun w hv hn hw => ⟨_, execPrd_next hv hn hw, rfl, onlyAnswer_answered s _ _⟩,
    refuses_prd_operand, fun hv => refuses_prd hv imm⟩

/-! ### PUBLISH and PTAKE (R302, R312) -/

section Swapping

variable {s : State} {c : Channel}

theorem execPublish_next (hp : s.prepared = true) (ha : s.settings.sAnen = 1#1) (hr : (s.chan c).pathReady = true) :
    execPublish c.code s = .next ((s.setChan c { s.chan c with
      pBack := (s.chan c).pFront, pFront := (s.chan c).pBack, pNew := true, pathReady := false }).answered .ok 0#32) :=
  (withChannel_code c s _).trans <| (withAnalyzer_on hp ha _).trans <| require_of hr _ _ _

theorem refuses_publish (hp : s.prepared = true) (ha : s.settings.sAnen = 1#1) (hr : (s.chan c).pathReady = false) :
    Refuses (.publish c.code) s .empty :=
  .of_exec <| (withChannel_code c s _).trans <| (withAnalyzer_on hp ha _).trans <| require_of_not hr _ _ _

theorem execPtake_next (hn : (s.chan c).pNew = true) :
    execPtake c.code s = .next ((s.setChan c { s.chan c with
      pHeld := (s.chan c).pFront, pFront := (s.chan c).pHeld, pNew := false, heldValid := true }).answered .ok
        (((s.chan c).plen.get (s.chan c).pFront).setWidth 32)) :=
  (withChannel_code c s _).trans <| require_of hn _ _ _

end Swapping

/-- Settles O44: both commands swap buffer numbers, and no memory with them. -/
theorem publishAndPtakeComplete : Obligations.PublishAndPtakeComplete := by
  intro s c k
  refine ⟨fun hp ha => ⟨fun hr => ⟨_, execPublish_next hp ha hr, sameMemory_setChan (by rfl) _ _, rfl⟩,
    refuses_publish hp ha⟩, fun hn => ⟨_, _, execPtake_next hn, sameMemory_setChan (by rfl) _ _, ?_, rfl⟩,
    refuses_ptake⟩
  exact BitVec.toNat_setWidth_of_le (by decide)

end Sys2Proof.Machine
end

section
/-! The columns of the display: the largest bin of a column, and the column table (R295 to R299). -/

namespace Sys2Proof.Machine

open F32 Reference

/-! ### The largest bin (R299) -/

/-- The larger of two numbers is one of them and not below either. -/
theorem keepLarger_spec {d w : Word} (hd : isNaN d = false) (hw : isNaN w = false) :
    (keepLarger d w = d ∨ keepLarger d w = w) ∧ key d ≤ key (keepLarger d w) ∧ key w ≤ key (keepLarger d w) := by
  have hgt := fgt_iff hw hd
  unfold keepLarger
  split
  · exact ⟨.inr rfl, (hgt.1 ‹_›).le, le_rfl⟩
  · exact ⟨.inl rfl, le_rfl, not_lt.1 fun h => ‹¬_› (hgt.2 h)⟩

/-- The fold over numbers finds one of them that is not below any. -/
theorem foldl_keepLarger_spec (ds : List Word) {d : Word} (h : ∀ w ∈ d :: ds, isNaN w = false) :
    ds.foldl keepLarger d ∈ d :: ds ∧ ∀ w ∈ d :: ds, key w ≤ key (ds.foldl keepLarger d) := by
  induction ds generalizing d with
  | nil => exact ⟨List.mem_singleton_self d, fun w hw => by rw [List.mem_singleton.1 hw]; rfl⟩
  | cons a ds ih =>
    simp only [List.forall_mem_cons] at h
    obtain ⟨hd, ha, hds⟩ := h
    obtain ⟨hor, hled, hlea⟩ := keepLarger_spec hd ha
    have hnan : isNaN (keepLarger d a) = false := by obtain h | h := hor <;> rwa [h]
    obtain ⟨hmem, hmax⟩ := ih (d := keepLarger d a) (List.forall_mem_cons.2 ⟨hnan, hds⟩)
    simp only [List.forall_mem_cons] at hmax ⊢
    obtain ⟨hm, hrest⟩ := hmax
    refine ⟨?_, hled.trans hm, hlea.trans hm, hrest⟩
    obtain hhead | htail := List.mem_cons.1 hmem
    · rw [List.foldl_cons, hhead]
      obtain h | h := hor <;> rw [h] <;> simp
    · exact List.mem_cons_of_mem _ (List.mem_cons_of_mem _ htail)

/-- The clamp at the floor: the floor or the number, and not below either. -/
theorem clampFloor_spec {floor m : Word} (hf : isNaN floor = false) (hm : isNaN m = false) :
    ((if flt m floor then floor else m) = floor ∨ (if flt m floor then floor else m) = m)
      ∧ key floor ≤ key (if flt m floor then floor else m) ∧ key m ≤ key (if flt m floor then floor else m)
      ∧ isNaN (if flt m floor then floor else m) = false := by
  have hlt := flt_iff hm hf
  split
  · exact ⟨.inl rfl, le_rfl, (hlt.1 ‹_›).le, hf⟩
  · exact ⟨.inr rfl, not_lt.1 fun h => ‹¬_› (hlt.2 h), le_rfl, hm⟩

/-- The words of a column's bins are read as one list. -/
theorem readRange_column {db : Memory} {lo hi : Nat} {v : Nat → Word} (hle : lo ≤ hi)
    (hv : ∀ k, lo ≤ k → k ≤ hi → Memory.read db k = some (v k)) :
    ∃ d ds, Memory.readRange db lo (hi - lo + 1) = some (d :: ds)
      ∧ ∀ w, w ∈ d :: ds ↔ ∃ k, lo ≤ k ∧ k ≤ hi ∧ w = v k := by
  obtain ⟨ws, hws⟩ := Memory.readRange_isSome (m := db) (i := lo) (n := hi - lo + 1) fun j hj => by
    rw [hv (lo + j) (by omega) (by omega)]
    rfl
  obtain ⟨hlen, hread⟩ := Memory.readRange_eq_some hws
  have hget (j : Nat) (hj : j < hi - lo + 1) : ws[j]? = some (v (lo + j)) :=
    (hread j hj).symm.trans (hv _ (by omega) (by omega))
  have hmem (w : Word) : w ∈ ws ↔ ∃ k, lo ≤ k ∧ k ≤ hi ∧ w = v k := by
    rw [List.mem_iff_getElem?]
    constructor
    · rintro ⟨j, hj⟩
      have hlt : j < hi - lo + 1 := hlen ▸ (List.getElem?_eq_some_iff.1 hj).1
      exact ⟨lo + j, by omega, by omega, Option.some.inj (hj.symm.trans (hget j hlt))⟩
    · rintro ⟨k, hlo, hhi, rfl⟩
      refine ⟨k - lo, ?_⟩
      rw [hget _ (by omega), Nat.add_sub_cancel' hlo]
  obtain ⟨d, ds, rfl⟩ := List.exists_cons_of_length_pos (hlen.symm ▸ Nat.succ_pos (hi - lo) : 0 < ws.length)
  exact ⟨d, ds, hws, hmem⟩

/-- Settles O42: the fold finds the largest bin, and the clamp compares it with the floor. -/
theorem columnShowsItsLargestBin : Obligations.ColumnShowsItsLargestBin := by
  intro db floor hfin
  refine ⟨rfl, fun lo hi v hle hv => ?_⟩
  have hf := isNaN_of_isFinite hfin
  obtain ⟨d, ds, hread, hmem⟩ := readRange_column hle fun k h1 h2 => (hv k h1 h2).1
  have hnum : ∀ w ∈ d :: ds, isNaN w = false := by
    intro w hw
    obtain ⟨k, h1, h2, rfl⟩ := (hmem w).1 hw
    exact (hv k h1 h2).2
  obtain ⟨hin, hmax⟩ := foldl_keepLarger_spec ds hnum
  obtain ⟨hor, hfloor, hlargest, hnan⟩ := clampFloor_spec hf (hnum _ hin)
  refine ⟨_, by simp only [columnValue, hread], hor.imp id fun h => ?_, (fle_iff hf hnan).2 hfloor, fun k h1 h2 => ?_⟩
  · rw [h]
    exact (hmem _).1 hin
  · exact (fle_iff (hv k h1 h2).2 hnan).2 ((hmax _ ((hmem _).2 ⟨k, h1, h2, rfl⟩)).trans hlargest)

/-! ### The search by bits -/

/-- The bitwise search of a downward closed predicate finds its largest member in range. -/
theorem greatest_spec {P : Nat → Bool} (hP : ∀ a b, a ≤ b → P b = true → P a = true) (i : Nat) {r : Nat}
    (hr : P r = true) :
    P (greatest P i r) = true ∧ greatest P i r < r + 2 ^ i ∧ ∀ k, k < r + 2 ^ i → P k = true → k ≤ greatest P i r := by
  induction i generalizing r with
  | zero => exact ⟨hr, Nat.lt_succ_self r, fun k hk _ => Nat.le_of_lt_succ hk⟩
  | succ i ih =>
    rw [greatest, pow_succ, mul_two, ← Nat.add_assoc]
    split
    · exact ih ‹_›
    · obtain ⟨hg, hlt, hmax⟩ := ih hr
      refine ⟨hg, hlt.trans_le (Nat.le_add_right _ _), fun k _ hk => hmax k ?_ hk⟩
      exact not_le.1 fun hle => ‹¬_› (hP _ k hle hk)

theorem le_greatest_iff {P : Nat → Bool} (hP : ∀ a b, a ≤ b → P b = true → P a = true) (h0 : P 0 = true) {i k : Nat} :
    k ≤ greatest P i 0 ↔ k < 2 ^ i ∧ P k = true := by
  obtain ⟨hg, hlt, hmax⟩ := greatest_spec hP i h0
  rw [Nat.zero_add] at hlt hmax
  exact ⟨fun hk => ⟨hk.trans_lt hlt, hP k _ hk hg⟩, fun ⟨hk, hPk⟩ => hmax k hk hPk⟩

/-! ### Bin positions over the real numbers (R295, R296) -/

/-- The bin position of column `e / 2` (R296): its centre for an even `e`, its edges for the odd ones beside it. -/
noncomputable def columnPosition (κ : Config) (W : Nat) (fs : Word) (e : ℤ) : ℝ :=
  binPosition κ (columnFrequency (e / 2) W) (value fs)

/-- A display of at least two columns and a sample rate above zero: where R296 defines the columns. -/
structure RealDisplay (W : Nat) (fs : Word) : Prop where
  width : 2 ≤ W
  rate : finitePositive fs = true

section Display

variable {κ : Config} {W : Nat} {fs : Word}

theorem value_pos_of_finitePositive (h : finitePositive fs = true) : 0 < value fs := by
  obtain ⟨hf, hpos⟩ := Bool.and_eq_true_iff.1 h
  rw [← value_of_zero (a := zero) (by decide), value_lt_iff]
  exact (fgt_iff (isNaN_of_isFinite hf) (by decide)).1 hpos

theorem units_pos_of_finitePositive (h : finitePositive fs = true) : 0 < units fs :=
  units_pos (Bool.eq_false_iff.2 fun hz => (value_pos_of_finitePositive h).ne' (value_of_zero hz))

theorem value_of_finitePositive (h : finitePositive fs = true) : value fs = units fs / 2 ^ 149 := by
  have hpos := value_pos_of_finitePositive h
  have hz : isZero fs = false := Bool.eq_false_iff.2 fun hz => hpos.ne' (value_of_zero hz)
  rw [value_eq_signed, sign_of_value_nonneg hz hpos.le]
  rfl

theorem RealDisplay.units_pos (h : RealDisplay W fs) : (0 : ℝ) < units fs := by
  exact_mod_cast units_pos_of_finitePositive h.rate

theorem RealDisplay.last_pos (h : RealDisplay W fs) : (0 : ℝ) < W - 1 := by
  have hW : (2 : ℝ) ≤ W := by exact_mod_cast h.width
  linarith

theorem cast_fftN_pos (κ : Config) : (0 : ℝ) < κ.fftN := by exact_mod_cast Nat.two_pow_pos κ.log2N

theorem columnPosition_pos (h : RealDisplay W fs) (e : ℤ) : 0 < columnPosition κ W fs e := by
  have hv := value_pos_of_finitePositive h.rate
  have hN := cast_fftN_pos κ
  unfold columnPosition binPosition columnFrequency
  positivity

/-- Columns further right have higher frequencies. -/
theorem columnPosition_strictMono (h : RealDisplay W fs) : StrictMono (columnPosition κ W fs) := by
  intro e e' hlt
  have hv := value_pos_of_finitePositive h.rate
  have hN := cast_fftN_pos κ
  have hW := h.last_pos
  have he : (e : ℝ) < e' := by exact_mod_cast hlt
  have hpow : (1000 : ℝ) ^ ((e : ℝ) / 2 / (W - 1)) < 1000 ^ ((e' : ℝ) / 2 / (W - 1)) :=
    Real.rpow_lt_rpow_of_exponent_lt (by norm_num) (by gcongr)
  unfold columnPosition binPosition columnFrequency
  gcongr

/-- What the model compares for the number `t` (R296): the power of `t` in units of the sample rate, times its share of
1000^e. -/
noncomputable def side (W : Nat) (fs : Word) (e : ℤ) (t : ℝ) : ℝ :=
  (t * units fs) ^ (2 * (W - 1)) * 1000 ^ (-e).toNat

theorem side_strictMonoOn (h : RealDisplay W fs) (e : ℤ) : StrictMonoOn (side W fs e) (Set.Ici 0) := by
  intro a (ha : 0 ≤ a) b _ hab
  have hu := h.units_pos
  have hq : 2 * (W - 1) ≠ 0 := by have := h.width; omega
  unfold side
  gcongr

/-- The root of 1000^e in the bin position goes away under the power. -/
theorem rpow_root_pow (h : RealDisplay W fs) (e : ℤ) :
    ((1000 : ℝ) ^ ((e : ℝ) / 2 / (W - 1))) ^ (2 * (W - 1)) * 1000 ^ (-e).toNat = 1000 ^ e.toNat := by
  have hW := h.last_pos.ne'
  have hcast : ((W - 1 : ℕ) : ℝ) = W - 1 := by rw [Nat.cast_sub (one_le_two.trans h.width), Nat.cast_one]
  have hexp : (e : ℝ) / 2 / (W - 1) * (2 * (W - 1)) = e := by field_simp
  have hsplit : e + (-e).toNat = e.toNat := by omega
  rw [← Real.rpow_mul_natCast (by norm_num), ← Real.rpow_natCast, ← Real.rpow_add (by norm_num), ← Real.rpow_natCast,
    Nat.cast_mul, hcast, Nat.cast_ofNat, hexp]
  congr 1
  exact_mod_cast hsplit

/-- The two sides the model compares are those of `a` and of the bin position times `b`. -/
theorem betaSides_eq (h : RealDisplay W fs) (a b : Nat) (e : ℤ) :
    ((betaSides κ (units fs) (2 * (W - 1)) a b e).1 : ℝ) = side W fs e a
      ∧ ((betaSides κ (units fs) (2 * (W - 1)) a b e).2 : ℝ) = side W fs e (columnPosition κ W fs e * b) := by
  have hu := h.units_pos.ne'
  have hpos : columnPosition κ W fs e * b * units fs
      = b * (20 * κ.fftN * 2 ^ 149) * (1000 : ℝ) ^ ((e : ℝ) / 2 / (W - 1)) := by
    rw [columnPosition, binPosition, columnFrequency, value_of_finitePositive h.rate]
    field_simp
  constructor
  · simp only [betaSides, Config.fRatio, side]
    push_cast
    rfl
  · rw [side, hpos, mul_pow, mul_assoc, rpow_root_pow h]
    simp only [betaSides, Config.fRatio, Config.fMin]
    push_cast
    norm_num

section Compare

variable (h : RealDisplay W fs) (a b : Nat) (e : ℤ)
include h

/-- The comparison of `a / b` with a bin position, by integers (R296). -/
theorem betaSides_lt_iff :
    (betaSides κ (units fs) (2 * (W - 1)) a b e).1 < (betaSides κ (units fs) (2 * (W - 1)) a b e).2
      ↔ (a : ℝ) < columnPosition κ W fs e * b := by
  obtain ⟨h1, h2⟩ := betaSides_eq (κ := κ) h a b e
  rw [← Nat.cast_lt (α := ℝ), h1, h2]
  exact (side_strictMonoOn h e).lt_iff_lt (Set.mem_Ici.2 a.cast_nonneg)
    (Set.mem_Ici.2 (mul_nonneg (columnPosition_pos h e).le b.cast_nonneg))

theorem betaSides_le_iff :
    (betaSides κ (units fs) (2 * (W - 1)) a b e).1 ≤ (betaSides κ (units fs) (2 * (W - 1)) a b e).2
      ↔ (a : ℝ) ≤ columnPosition κ W fs e * b := by
  obtain ⟨h1, h2⟩ := betaSides_eq (κ := κ) h a b e
  rw [← Nat.cast_le (α := ℝ), h1, h2]
  exact (side_strictMonoOn h e).le_iff_le (Set.mem_Ici.2 a.cast_nonneg)
    (Set.mem_Ici.2 (mul_nonneg (columnPosition_pos h e).le b.cast_nonneg))

end Compare

/-- The bins below an edge (R296), up to the bound of the search. -/
theorem lt_ceilBeta_iff (h : RealDisplay W fs) (e : ℤ) (k : Nat) :
    k < ceilBeta κ (units fs) (2 * (W - 1)) e ↔ k < 2 ^ 20 ∧ (k : ℝ) < columnPosition κ W fs e := by
  have hP (k : Nat) := betaSides_lt_iff (κ := κ) h k 1 e
  simp only [Nat.cast_one, mul_one] at hP
  rw [ceilBeta, Nat.lt_succ_iff, le_greatest_iff] <;> simp only [decide_eq_true_eq, hP]
  · exact fun a b hab hb => lt_of_le_of_lt (by exact_mod_cast hab) hb
  · exact_mod_cast columnPosition_pos h e

/-- The bins not right of the nearest one (R296), up to the bound of the search. -/
theorem le_nearestBin_iff (h : RealDisplay W fs) (e : ℤ) (k : Nat) :
    k ≤ nearestBin κ (units fs) (2 * (W - 1)) e ↔ k < 2 ^ 20 ∧ (k : ℝ) ≤ columnPosition κ W fs e + 1 / 2 := by
  have hpos := columnPosition_pos (κ := κ) h e
  have hP (k : Nat) : ((2 * k - 1 : ℕ) : ℝ) ≤ columnPosition κ W fs e * (2 : ℕ)
      ↔ (k : ℝ) ≤ columnPosition κ W fs e + 1 / 2 := by
    cases k with
    | zero =>
      rw [show 2 * 0 - 1 = 0 from rfl, Nat.cast_zero]
      exact iff_of_true (by positivity) (by positivity)
    | succ k =>
      rw [show 2 * (k + 1) - 1 = 2 * k + 1 by omega]
      push_cast
      constructor <;> intro <;> linarith
  rw [nearestBin, le_greatest_iff] <;> simp only [decide_eq_true_eq, betaSides_le_iff h, hP]
  · exact fun a b hab hb => le_trans (by exact_mod_cast hab) hb
  · push_cast
    linarith

/-! ### The search against the real ceiling and floor -/

theorem ceilBeta_eq (h : RealDisplay W fs) (e : ℤ) :
    (ceilBeta κ (units fs) (2 * (W - 1)) e : ℤ) = min ⌈columnPosition κ W fs e⌉ (2 ^ 20) := by
  have hpos := Int.ceil_pos.2 (columnPosition_pos (κ := κ) h e)
  obtain ⟨m, hm⟩ := Int.eq_ofNat_of_zero_le (le_min hpos.le (by norm_num : (0 : ℤ) ≤ 2 ^ 20))
  rw [hm, Nat.cast_inj]
  refine eq_of_forall_lt_iff fun k => ?_
  rw [lt_ceilBeta_iff h, ← Nat.cast_lt (α := ℤ) (n := m), ← hm, lt_min_iff, Int.lt_ceil, and_comm]
  exact_mod_cast Iff.rfl

theorem nearestBin_eq (h : RealDisplay W fs) (e : ℤ) :
    (nearestBin κ (units fs) (2 * (W - 1)) e : ℤ) = min ⌊columnPosition κ W fs e + 1 / 2⌋ (2 ^ 20 - 1) := by
  have hpos := columnPosition_pos (κ := κ) h e
  have hfloor : 0 ≤ ⌊columnPosition κ W fs e + 1 / 2⌋ := Int.floor_nonneg.2 (by linarith)
  obtain ⟨m, hm⟩ := Int.eq_ofNat_of_zero_le (le_min hfloor (by norm_num : (0 : ℤ) ≤ 2 ^ 20 - 1))
  rw [hm, Nat.cast_inj]
  refine eq_of_forall_le_iff fun k => ?_
  rw [le_nearestBin_iff h, ← Nat.cast_le (α := ℤ) (n := m), ← hm, le_min_iff, Int.le_floor, and_comm]
  have hlt : (k : ℤ) ≤ 2 ^ 20 - 1 ↔ k < 2 ^ 20 := by omega
  rw [hlt]
  exact_mod_cast Iff.rfl

/-! ### The order of edges and centres -/

section Order

variable {e e' : ℤ}

theorem edge_mono (h : RealDisplay W fs) (he : e ≤ e') :
    ⌈columnPosition κ W fs e⌉ ≤ ⌈columnPosition κ W fs e'⌉ :=
  Int.ceil_mono ((columnPosition_strictMono h).monotone he)

theorem nearest_mono (h : RealDisplay W fs) (he : e ≤ e') :
    ⌊columnPosition κ W fs e + 1 / 2⌋ ≤ ⌊columnPosition κ W fs e' + 1 / 2⌋ :=
  Int.floor_mono (by linarith [(columnPosition_strictMono (κ := κ) h).monotone he])

/-- The last bin left of an edge is not right of the nearest bin to a position further right. -/
theorem edge_le_nearest (h : RealDisplay W fs) (he : e ≤ e') :
    ⌈columnPosition κ W fs e⌉ - 1 ≤ ⌊columnPosition κ W fs e' + 1 / 2⌋ := by
  have hle := (columnPosition_strictMono (κ := κ) h).monotone he
  have hceil := Int.ceil_lt_add_one (columnPosition κ W fs e)
  refine Int.le_floor.2 ?_
  push_cast
  linarith

/-- The nearest bin to a position is not right of the first bin after an edge further right. -/
theorem nearest_le_edge (h : RealDisplay W fs) (he : e ≤ e') :
    ⌊columnPosition κ W fs e + 1 / 2⌋ ≤ ⌈columnPosition κ W fs e'⌉ := by
  have hle := (columnPosition_strictMono (κ := κ) h).monotone he
  have hceil := Int.le_ceil (columnPosition κ W fs e')
  refine Int.lt_add_one_iff.1 (Int.floor_lt.2 ?_)
  push_cast
  linarith

end Order

/-! ### The ideal table (R296) -/

/-- A column shows the nearest bin where no bin has its centre between the edges, else the bins between them. -/
theorem columnBins_cases (κ : Config) (x W n : Nat) :
    (ceilBeta κ n (2 * (W - 1)) (2 * x + 1) - 1 < ceilBeta κ n (2 * (W - 1)) (2 * x - 1)
      ∧ columnBins κ x W n = (nearestBin κ n (2 * (W - 1)) (2 * x), nearestBin κ n (2 * (W - 1)) (2 * x)))
    ∨ (ceilBeta κ n (2 * (W - 1)) (2 * x - 1) ≤ ceilBeta κ n (2 * (W - 1)) (2 * x + 1) - 1
      ∧ columnBins κ x W n
        = (ceilBeta κ n (2 * (W - 1)) (2 * x - 1), ceilBeta κ n (2 * (W - 1)) (2 * x + 1) - 1)) := by
  obtain h | h := lt_or_ge (ceilBeta κ n (2 * (W - 1)) (2 * x + 1) - 1) (ceilBeta κ n (2 * (W - 1)) (2 * x - 1))
  · exact .inl ⟨h, if_pos h⟩
  · exact .inr ⟨h, if_neg h.not_gt⟩

theorem columnBins_ordered (κ : Config) (x W n : Nat) : (columnBins κ x W n).1 ≤ (columnBins κ x W n).2 := by
  obtain ⟨-, h⟩ | ⟨hle, h⟩ := columnBins_cases κ x W n <;> rw [h]
  exact hle

/-- The bins of the next column are not left of those of this one: the two columns share an edge. -/
theorem columnBins_rise (h : RealDisplay W fs) (x : Nat) :
    (columnBins κ x W (units fs)).1 ≤ (columnBins κ (x + 1) W (units fs)).1
      ∧ (columnBins κ x W (units fs)).2 ≤ (columnBins κ (x + 1) W (units fs)).2 := by
  have hnext := columnBins_cases κ (x + 1) W (units fs)
  rw [show 2 * ((x + 1 : ℕ) : ℤ) - 1 = 2 * x + 1 by push_cast; ring] at hnext
  have hedge := ceilBeta_eq (κ := κ) h (2 * x + 1)
  have hmid := nearestBin_eq (κ := κ) h (2 * x)
  have hmid' := nearestBin_eq (κ := κ) h (2 * ((x + 1 : ℕ) : ℤ))
  have hpos := Int.ceil_pos.2 (columnPosition_pos (κ := κ) h (2 * x + 1))
  have hlow := edge_le_nearest (κ := κ) h (show (2 * x + 1 : ℤ) ≤ 2 * ((x + 1 : ℕ) : ℤ) by push_cast; omega)
  have hhigh := nearest_le_edge (κ := κ) h (show (2 * x : ℤ) ≤ 2 * x + 1 by omega)
  have hmono := nearest_mono (κ := κ) h (show (2 * x : ℤ) ≤ 2 * ((x + 1 : ℕ) : ℤ) by push_cast; omega)
  obtain ⟨hx, hb⟩ | ⟨hx, hb⟩ := columnBins_cases κ x W (units fs)
  all_goals obtain ⟨hy, hb'⟩ | ⟨hy, hb'⟩ := hnext
  all_goals
    rw [hb, hb']
    constructor <;> dsimp only <;> omega

theorem idealColumn_eq_some {n x lo hi : Nat} (h : idealColumn κ x W n = some (lo, hi)) :
    lo ≤ κ.nBin - 1 ∧ lo = (columnBins κ x W n).1 ∧ hi = min (columnBins κ x W n).2 (κ.nBin - 1) := by
  simp only [idealColumn] at h
  split at h
  · cases h
  · cases h
    exact ⟨not_lt.1 ‹_›, rfl, rfl⟩

/-- P-COL-RANGE (R296) of the ideal table. -/
theorem idealColumn_inRange (κ : Config) (x W n : Nat) : columnInRange κ (idealColumn κ x W n) = true := by
  have hle := columnBins_ordered κ x W n
  cases hr : idealColumn κ x W n with
  | none => rfl
  | some r =>
    obtain ⟨hlo, h1, h2⟩ := idealColumn_eq_some (lo := r.1) (hi := r.2) hr
    simp only [columnInRange, Bool.and_eq_true, decide_eq_true_eq]
    omega

/-- P-COL-MONO (R296) of the ideal table. -/
theorem idealColumn_rise (h : RealDisplay W fs) (x : Nat) :
    columnsRise (idealColumn κ x W (units fs)) (idealColumn κ (x + 1) W (units fs)) = true := by
  obtain ⟨hlo, hhi⟩ := columnBins_rise (κ := κ) h x
  unfold idealColumn
  dsimp only
  by_cases hx : κ.nBin - 1 < (columnBins κ x W (units fs)).1
  · rw [if_pos hx, if_pos (hx.trans_le hlo)]
    rfl
  · rw [if_neg hx]
    split
    · rfl
    · simp only [columnsRise, Bool.and_eq_true, decide_eq_true_eq]
      omega

/-- P-COL-COVER (R296) of the ideal table: a column shows the bins between its edges. -/
theorem idealColumn_shows {n x k : Nat} (hk : k ≤ κ.nBin - 1) (hlo : (columnEdges κ x W n).1 ≤ k)
    (hhi : k < (columnEdges κ x W n).2) : columnShows k (idealColumn κ x W n) = true := by
  have hbins : columnBins κ x W n = ((columnEdges κ x W n).1, (columnEdges κ x W n).2 - 1) := if_neg (by omega)
  simp only [idealColumn, hbins]
  rw [if_neg (by omega)]
  simp only [columnShows, Bool.and_eq_true, decide_eq_true_eq]
  omega

/-- The clip at the last bin is the same for two ranges that agree below it. -/
theorem map_clip {n : Nat} (hn : 1 ≤ n) {r : Nat × Nat} {r' : ℤ × ℤ} (hout : (n : ℤ) ≤ r'.1 ↔ n ≤ r.1)
    (hin : r'.1 < n → (r.1 : ℤ) = r'.1 ∧ min (r.2 : ℤ) (n - 1) = min r'.2 (n - 1)) :
    (if n - 1 < r.1 then none else some (r.1, min r.2 (n - 1))).map (fun r : Nat × Nat => ((r.1 : ℤ), (r.2 : ℤ)))
      = if (n : ℤ) - 1 < r'.1 then none else some (r'.1, min r'.2 (n - 1)) := by
  by_cases h : n ≤ r.1
  · rw [if_pos (by omega), if_pos (by omega)]
    rfl
  · obtain ⟨h1, h2⟩ := hin (by omega)
    rw [if_neg (by omega), if_neg (by omega), Option.map_some, ← h1, ← h2]
    push_cast [hn]
    rfl

section Position

variable (κ W fs) (x : Nat)

theorem binPosition_eq {x : ℝ} {e : ℤ} (he : (e : ℝ) = 2 * x) :
    binPosition κ (columnFrequency x W) (value fs) = columnPosition κ W fs e := by
  rw [columnPosition, he, mul_div_cancel_left₀ x two_ne_zero]

theorem binPosition_left :
    binPosition κ (columnFrequency (x - 1 / 2) W) (value fs) = columnPosition κ W fs (2 * x - 1) :=
  binPosition_eq κ W fs (by push_cast; ring)

theorem binPosition_right :
    binPosition κ (columnFrequency (x + 1 / 2) W) (value fs) = columnPosition κ W fs (2 * x + 1) :=
  binPosition_eq κ W fs (by push_cast; ring)

theorem binPosition_centre :
    binPosition κ (columnFrequency x W) (value fs) = columnPosition κ W fs (2 * x) :=
  binPosition_eq κ W fs (by push_cast; ring)

end Position

/-- Every bin is below the bound of the search (R9). -/
theorem LegalConfig.nBin_le (hκ : LegalConfig κ) : κ.nBin ≤ 2 ^ 15 :=
  (Nat.div_le_self _ _).trans (Nat.pow_le_pow_right two_pos hκ.fft_size.2)

/-- The ideal table is the definition over the real numbers (R296): the bound of the search is above every bin. -/
theorem idealColumn_eq_idealRange (hκ : LegalConfig κ) (h : RealDisplay W fs) (x : Nat) :
    (idealColumn κ x W (units fs)).map (fun r => ((r.1 : ℤ), (r.2 : ℤ))) = idealRange κ x W (value fs) := by
  have hlo := ceilBeta_eq (κ := κ) h (2 * x - 1)
  have hhi := ceilBeta_eq (κ := κ) h (2 * x + 1)
  have hmid := nearestBin_eq (κ := κ) h (2 * x)
  have hle := edge_mono (κ := κ) h (show (2 * x - 1 : ℤ) ≤ 2 * x + 1 by omega)
  have hleft := edge_le_nearest (κ := κ) h (show (2 * x - 1 : ℤ) ≤ 2 * x by omega)
  have hright := nearest_le_edge (κ := κ) h (show (2 * x : ℤ) ≤ 2 * x + 1 by omega)
  have hpos := Int.ceil_pos.2 (columnPosition_pos (κ := κ) h (2 * x - 1))
  have hN := hκ.nBin_le
  simp only [idealRange, binPosition_left, binPosition_right, binPosition_centre]
  obtain ⟨hx, hb⟩ | ⟨hx, hb⟩ := columnBins_cases κ x W (units fs)
  all_goals refine map_clip hκ.one_le_nBin ?_ ?_
  all_goals
    rw [hb]
    split <;> dsimp only <;> omega

/-! ### Every configured table (R296) -/

/-- The named properties of a table, column by column. -/
theorem columnsSound_iff {n : Nat} {t : Nat → Option (Nat × Nat)} :
    columnsSound κ W n t = true ↔ ∀ x, x < W → columnInRange κ (t x) = true
      ∧ (x + 1 < W → columnsRise (t x) (t (x + 1)) = true)
      ∧ ∀ k, k < κ.nBin → (columnEdges κ x W n).1 ≤ k → k < (columnEdges κ x W n).2 → columnShows k (t x) = true
        ∨ (0 < x ∧ columnShows k (t (x - 1)) = true) ∨ (x + 1 < W ∧ columnShows k (t (x + 1)) = true) := by
  simp only [columnsSound, columnCovered, List.all_eq_true, List.mem_range, Bool.and_eq_true, Bool.or_eq_true,
    Bool.not_eq_true', Bool.and_eq_false_iff, decide_eq_true_eq, decide_eq_false_iff_not, not_le, not_lt]
  refine forall_congr' fun x => forall_congr' fun _ => ?_
  rw [and_assoc]
  refine and_congr_right fun _ => and_congr ?_ ?_
  · rw [← not_lt, imp_iff_not_or]
  · refine forall_congr' fun k => forall_congr' fun _ => ?_
    simp only [imp_iff_not_or, not_le, not_lt, or_assoc]

theorem columnsSound_ideal (h : RealDisplay W fs) :
    columnsSound κ W (units fs) (fun x => idealColumn κ x W (units fs)) = true :=
  columnsSound_iff.2 fun x _ => ⟨idealColumn_inRange κ x W _, fun _ => idealColumn_rise h x,
    fun _ hk hlo hhi => .inl (idealColumn_shows (Nat.le_sub_one_of_lt hk) hlo hhi)⟩

/-- Every configured table has the named properties, the ideal one too. -/
theorem columnsSound_colRange (κ : Config) (h : RealDisplay W fs) :
    columnsSound κ W (units fs) (fun x => colRange κ x W fs) = true := by
  by_cases htable : ∃ t, columnsSound κ W (units fs) t = true ∧ ∀ y, colRange κ y W fs = t y
  · obtain ⟨t, ht, heq⟩ := htable
    rwa [funext heq]
  · rw [funext fun x => (colRange_cases κ x h.width h.rate).resolve_right htable]
    exact columnsSound_ideal h

theorem colRange_of_ideal (h : RealDisplay W fs) (hc : κ.colRange = .ideal) (x : Nat) :
    colRange κ x W fs = idealColumn κ x W (units fs) := by
  rw [colRange, if_pos ⟨h.width, h.rate⟩, hc]

theorem columnsRise_trans {r q p : Option (Nat × Nat)} (h : columnsRise r q = true) (h' : columnsRise q p = true) :
    columnsRise r p = true := by
  match r, q, p with
  | none, none, p => exact h'
  | none, some _, _ => cases h
  | some _, _, none => rfl
  | some _, none, some _ => cases h'
  | some a, some b, some c =>
    simp only [columnsRise, Bool.and_eq_true, decide_eq_true_eq] at *
    exact ⟨h.1.trans h'.1, h.2.trans h'.2⟩

/-- P-COL-MONO (R296) for any two columns. -/
theorem columnsRise_of_lt {n : Nat} {t : Nat → Option (Nat × Nat)} (ht : columnsSound κ W n t = true) {x y : Nat}
    (hxy : x < y) (hy : y < W) : columnsRise (t x) (t y) = true := by
  have hstep (z : Nat) (hz : z + 1 < W) : columnsRise (t z) (t (z + 1)) = true :=
    (columnsSound_iff.1 ht z (by omega)).2.1 hz
  induction y, hxy using Nat.le_induction with
  | base => exact hstep x hy
  | succ y _ ih => exact columnsRise_trans (ih (by omega)) (hstep y hy)

theorem columnShows_iff {k : Nat} {r : Option (Nat × Nat)} :
    columnShows k r = true ↔ ∃ lo hi, r = some (lo, hi) ∧ lo ≤ k ∧ k ≤ hi := by
  match r with
  | none => simp [columnShows]
  | some (lo, hi) => simp [columnShows]

/-- P-COL-COVER (R296): a bin between the edges of a column is shown by it or by a neighbour. -/
theorem columnShows_neighbour {n : Nat} {t : Nat → Option (Nat × Nat)} (ht : columnsSound κ W n t = true) {x k : Nat}
    (hx : x < W) (hk : k < κ.nBin) (hlo : (columnEdges κ x W n).1 ≤ k) (hhi : k < (columnEdges κ x W n).2) :
    ∃ y, y < W ∧ y ≤ x + 1 ∧ x ≤ y + 1 ∧ columnShows k (t y) = true := by
  obtain ⟨-, -, hcover⟩ := columnsSound_iff.1 ht x hx
  obtain h | ⟨h0, h⟩ | ⟨h1, h⟩ := hcover k hk hlo hhi
  · exact ⟨x, hx, by omega, by omega, h⟩
  · exact ⟨x - 1, by omega, by omega, by omega, h⟩
  · exact ⟨x + 1, h1, le_rfl, by omega, h⟩

/-- A bin whose frequency lies in a column is between its edges. -/
theorem columnEdges_of_frequency (hκ : LegalConfig κ) (h : RealDisplay W fs) {x k : Nat} (hk : k < κ.nBin)
    (hlo : columnFrequency ((x : ℝ) - 1 / 2) W ≤ k * value fs / κ.fftN)
    (hhi : k * value fs / κ.fftN < columnFrequency ((x : ℝ) + 1 / 2) W) :
    (columnEdges κ x W (units fs)).1 ≤ k ∧ k < (columnEdges κ x W (units fs)).2 := by
  have hv := value_pos_of_finitePositive h.rate
  have hN := cast_fftN_pos κ
  have hbins := hκ.nBin_le
  have hl : columnPosition κ W fs (2 * x - 1) ≤ k := by
    rw [← binPosition_left, binPosition, div_le_iff₀ hv]
    exact (le_div_iff₀ hN).1 hlo
  have hr : (k : ℝ) < columnPosition κ W fs (2 * x + 1) := by
    rw [← binPosition_right, binPosition, lt_div_iff₀ hv]
    exact (div_lt_iff₀ hN).1 hhi
  exact ⟨not_lt.1 fun hlt => ((lt_ceilBeta_iff h _ _).1 hlt).2.not_ge hl, (lt_ceilBeta_iff h _ _).2 ⟨by omega, hr⟩⟩

end Display

/-- Settles O43: the integer searches find the real ceilings and the real floor, and the ideal table has the named
properties, so that every configured table has them. -/
theorem columnTableIsIdeal : Obligations.ColumnTableIsIdeal := by
  intro κ W fs hκ hW hfin hpos
  have h : RealDisplay W fs := ⟨hW, Bool.and_eq_true_iff.2 ⟨hfin, hpos⟩⟩
  have ht := columnsSound_colRange κ h
  refine ⟨fun hc x _ => ?_, fun x lo hi hx hr => ?_, fun x y hxy hy => ?_, fun x k hx hk hlo hhi => ?_⟩
  · rw [colRange_of_ideal h hc, idealColumn_eq_idealRange hκ h]
  · obtain ⟨hin, -⟩ := columnsSound_iff.1 ht x hx
    simpa [columnInRange, hr] using hin
  · have hrise := columnsRise_of_lt ht hxy hy
    refine ⟨fun r q hr hq => ?_, fun hr => ?_⟩
    · simpa [columnsRise, hr, hq] using hrise
    · simpa [columnsRise, hr] using hrise
  · have hlt : k < κ.nBin := Nat.lt_of_le_sub_one hκ.one_le_nBin hk
    obtain ⟨hl, hr⟩ := columnEdges_of_frequency hκ h hlt hlo hhi
    obtain ⟨y, hy, hle, hge, hshow⟩ := columnShows_neighbour ht hx hlt hl hr
    obtain ⟨lo, hi, heq, h1, h2⟩ := columnShows_iff.1 hshow
    exact ⟨y, lo, hi, hy, hle, hge, heq, h1, h2⟩

end Sys2Proof.Machine
end

section
/-! The lifecycle and settings commands: NOP, RESET and WRS (R331 to R338). -/

namespace Sys2Proof.Machine

/-! ### RESET (R333, R335, R336) -/

theorem State.quiescent_eq_false_iff {s : State} : s.quiescent = false ↔
    s.inBlock = true ∨ s.chans.left.popActive = true ∨ s.chans.right.popActive = true := by
  simp only [State.quiescent, Bool.and_eq_false_iff, Bool.not_eq_false', or_assoc]

theorem execReset_next {s : State} (hq : s.quiescent = true) :
    execReset s = .next (s.resetRuntime.answered .ok 0#32) := require_of hq _ _ _

/-- Settles O10: RESET leaves `resetRuntime` on a quiescent block and is refused on any other. -/
theorem resetCompletes : Obligations.ResetCompletes := fun s =>
  ⟨fun hb hl hr => ⟨_, execReset_next (quiescent_of_closed hb hl hr),
      runtimeReset_resetRuntime s s.rFs s.rBlk s.prepared _ _,
      sameMemory_resetRuntime s s.rFs s.rBlk s.prepared _ _, rfl⟩,
    fun hopen => .of_exec (require_of_not (State.quiescent_eq_false_iff.2 hopen) _ _ _)⟩

/-! ### WRS (R338) -/

/-- The register table of R338 that WRS goes by is the one the statements write out. -/
theorem legalSetting_eq_inLegalSet (κ : Config) (idx : BitVec 4) (w : Word) :
    legalSetting κ idx w = inLegalSet κ idx w := by
  obtain ⟨n, hn⟩ := idx
  interval_cases n
  pick_goal 11 -- register 10, the display width
  · change (decide (2 ≤ w.toNat) && decide (w.toNat ≤ κ.wMax) && decide (w.toNat < 65535 + 1)) = decide _
    simp only [Bool.decide_and, Bool.and_assoc, Nat.lt_succ_iff]
  all_goals rfl

/-- The write, register by register (R40). -/
theorem Settings.write_eq (r : Settings) (idx : BitVec 4) (w : Word) : r.write idx w =
    { sPkFreq := if idx.toNat = 0 then w else r.sPkFreq
      sPkGain := if idx.toNat = 1 then w else r.sPkGain
      sPkQ := if idx.toNat = 2 then w else r.sPkQ
      sLcFreq := if idx.toNat = 3 then w else r.sLcFreq
      sHcFreq := if idx.toNat = 4 then w else r.sHcFreq
      sLcSlope := if idx.toNat = 5 then w.setWidth 2 else r.sLcSlope
      sHcSlope := if idx.toNat = 6 then w.setWidth 2 else r.sHcSlope
      sBypass := if idx.toNat = 7 then w.setWidth 3 else r.sBypass
      sAnen := if idx.toNat = 8 then w.setWidth 1 else r.sAnen
      aFloor := if idx.toNat = 9 then w else r.aFloor
      dW := if idx.toNat = 10 then w.setWidth 16 else r.dW
      dYtop := if idx.toNat = 11 then w else r.dYtop
      dYbot := if idx.toNat = 12 then w else r.dYbot } := by
  obtain ⟨n, hn⟩ := idx
  interval_cases n
  all_goals rfl

/-- A narrow register reads back a word that fits it (R346). -/
theorem setWidth_setWidth_of_lt {n : Nat} {w : Word} (h : w.toNat < 2 ^ n) : (w.setWidth n).setWidth 32 = w := by
  refine BitVec.eq_of_toNat_eq ?_
  rw [BitVec.toNat_setWidth, BitVec.toNat_setWidth, Nat.mod_eq_of_lt h, Nat.mod_eq_of_lt w.isLt]

/-- The state WRS leaves (R338). -/
def State.settingWritten (s : State) (idx : BitVec 4) (w : Word) : State :=
  ({ s with settings := s.settings.write idx w } : State).answered .ok 0#32

theorem State.sameMemory_settingWritten (s : State) (idx : BitVec 4) (w : Word) :
    SameMemory s (s.settingWritten idx w) := .of_chans rfl

/-- The register written reads as the value; a legal value fits the register (R40, R338). -/
theorem State.readSetting_settingWritten_self (s : State) {idx : BitVec 4} {w : Word}
    (hw : legalSetting s.config idx w = true) : (s.settingWritten idx w).readSetting idx = w := by
  unfold legalSetting at hw
  split at hw
  case h_14 => exact absurd hw Bool.false_ne_true
  all_goals simp only [State.readSetting, State.settingWritten, State.answered_settings, Settings.write_eq, if_true, *]
  case h_6 | h_7 | h_8 | h_9 => exact setWidth_setWidth_of_lt (Nat.lt_succ_of_le (of_decide_eq_true hw))
  case h_11 => exact setWidth_setWidth_of_lt (of_decide_eq_true (Bool.and_eq_true_iff.1 hw).2)

/-- The other registers keep their values; none of the registers above 12 is made from a settings register. -/
theorem State.readSetting_settingWritten_ne (s : State) {idx j : BitVec 4} (w : Word) (h : j ≠ idx) :
    (s.settingWritten idx w).readSetting j = s.readSetting j := by
  have hne : idx.toNat ≠ j.toNat := fun he => h (BitVec.eq_of_toNat_eq he.symm)
  unfold State.readSetting
  split
  all_goals simp only [State.settingWritten, State.answered_settings, Settings.write_eq]
  case h_14 | h_15 | h_16 => rfl
  all_goals rw [if_neg (hne.trans_eq ‹_›)]

theorem execWrs_next {s : State} {idx : BitVec 4} {w : Word} (hidx : idx.toNat ≤ 12)
    (hw : legalSetting s.config idx w = true) : execWrs idx w s = .next (s.settingWritten idx w) :=
  (require_of (decide_eq_true hidx) _ _ _).trans (require_of hw _ _ _)

/-- Settles O11: the index and then the value are tested, and the write changes one register. -/
theorem wrsCompletes : Obligations.WrsCompletes := by
  intro s idx w
  rw [← legalSetting_eq_inLegalSet]
  refine ⟨fun hidx hw => ?_, fun hidx => ?_, fun hidx hw => ?_⟩
  · exact ⟨_, execWrs_next hidx hw, rfl, s.readSetting_settingWritten_self hw,
      fun j hj => s.readSetting_settingWritten_ne w hj, s.sameMemory_settingWritten idx w⟩
  · exact .of_exec (require_of_not (decide_eq_false (Nat.not_le.2 hidx)) _ _ _)
  · exact .of_exec ((require_of (decide_eq_true hidx) _ _ _).trans (require_of_not hw _ _ _))

/-! ### NOP (R331) -/

/-- Settles O8: NOP answers alone; its word is the encoding of NOP, and every port reads it so. -/
theorem nopCompletes : Obligations.NopCompletes := by
  refine ⟨fun s => ⟨_, rfl, rfl, onlyAnswer_answered s .ok 0#32⟩, fun p cmd wdata => ⟨fun h => ?_, ?_⟩⟩
  · exact (encodeOfDecode p cmd wdata .nop h).1.symm.trans (by decide)
  · rintro rfl
    exact decode_eq_some_iff.2 ⟨rfl, rfl, rfl, rfl, rfl, rfl⟩

end Sys2Proof.Machine
end

section
/-! The status of every answer, and what a refusal leaves (R361 to R363, R370 to R376): each command is read as the list
of the statuses it can refuse with, in the order of R363, and goes through the conditions of that list. -/

namespace Sys2Proof.Machine

/-! ### The first status that applies (R363) -/

/-- The first status of a list whose cause applies, ST_OK when none does. -/
def firstCause (i : Instr) (s : State) (sts : List Status) : Status := (sts.find? (hasCause i s)).getD .ok

theorem reported_eq_firstCause (i : Instr) (s : State) : reported i s = firstCause i s statusOrder := rfl

section FirstCause

variable {i : Instr} {s : State} {st : Status} {sts : List Status}

theorem firstCause_nil (i : Instr) (s : State) : firstCause i s [] = .ok := rfl

theorem firstCause_of_cause (h : hasCause i s st = true) : firstCause i s (st :: sts) = st := by
  rw [firstCause, List.find?_cons_of_pos h, Option.getD_some]

theorem firstCause_of_not_cause (h : hasCause i s st = false) : firstCause i s (st :: sts) = firstCause i s sts := by
  rw [firstCause, List.find?_cons_of_neg (Bool.eq_false_iff.1 h), firstCause]

/-- A status other than ST_OK is reported for its cause. -/
theorem hasCause_of_firstCause (h : firstCause i s sts = st) (hok : st ≠ .ok) : hasCause i s st = true := by
  unfold firstCause at h
  match hf : sts.find? (hasCause i s) with
  | none => exact absurd (h.symm.trans (by rw [hf, Option.getD_none])) hok
  | some st' =>
    rw [hf, Option.getD_some] at h
    exact h ▸ List.find?_some hf

end FirstCause

/-! ### Commands as lists of refusals -/

/-- What ST_OVERRUN leaves (R251, R253, R362): the read index moved past the lost blocks, and after FPOPE the pop
closed. -/
def Overruns (i : Instr) (s t : State) : Prop :=
  SameMemory s t ∧ ∃ c,
    (i = .fpopb c.code ∧ t = { s with
      answer := t.answer, chans := s.chans.set c { s.chan c with rdIdx := (s.chan c).skipTarget s.config } })
    ∨ (i = .fpope c.code ∧ t = { s with
      answer := t.answer
      chans := s.chans.set c { s.chan c with
        rdIdx := (s.chan c).skipTarget s.config, popActive := false, popValid := false } })

/-- What the status of an answer says of the state the command leaves (R362). -/
def Leaves (i : Instr) (s t : State) (st : Status) : Prop :=
  (st = .overrun → Overruns i s t) ∧ (st ≠ .ok → st ≠ .overrun → t = s.answered st 0#32)

/-- The result answers the first status of the list whose cause applies and leaves what that status says; it faults only
when none applies (log 10). -/
def Reports (i : Instr) (s : State) (sts : List Status) : Result → Prop
  | .next t => (∃ w, t.answer = some ⟨firstCause i s sts, w⟩) ∧ Leaves i s t (firstCause i s sts)
  | .fault _ => firstCause i s sts = .ok
  | .refused _ => False

section Rules

variable {i : Instr} {s t : State} {st : Status} {sts : List Status} {r : Result}

/-- A command that lists the statuses it can refuse with reports the first of all that applies. -/
theorem reports_of (sts : List Status) (hsts : firstCause i s statusOrder = firstCause i s sts)
    (h : Reports i s sts r) : Reports i s statusOrder r := by
  unfold Reports at *
  rwa [hsts]

/-- Past a status whose cause does not apply. -/
theorem Reports.past (h : Reports i s sts r) (hst : hasCause i s st = false) : Reports i s (st :: sts) r := by
  unfold Reports at *
  rwa [firstCause_of_not_cause hst]

/-- A command that refuses for a cause that applies. -/
theorem reports_refuse (h : hasCause i s st = true) (hst : st ≠ .overrun) : Reports i s (st :: sts) (refuse s st) := by
  rw [refuse_eq, Reports, firstCause_of_cause h]
  exact ⟨⟨_, rfl⟩, fun ho => absurd ho hst, fun _ _ => rfl⟩

theorem reports_overrun {w : Word} (h : hasCause i s .overrun = true) (ho : Overruns i s (t.answered .overrun w)) :
    Reports i s [.overrun] (.next (t.answered .overrun w)) := by
  rw [Reports, firstCause_of_cause h]
  exact ⟨⟨_, rfl⟩, fun _ => ho, fun _ hne => absurd rfl hne⟩

/-- A command that completes when no refusal is left. -/
theorem reports_ok {w : Word} : Reports i s [] (.next (t.answered .ok w)) := by
  rw [Reports, firstCause_nil]
  exact ⟨⟨_, rfl⟩, fun h => (by cases h), fun h => absurd rfl h⟩

theorem reports_withWord {body : Word → Result} (h : ∀ w, Reports i s [] (body w)) (m : MemoryName) (o : Option Word) :
    Reports i s [] (withWord m o body) := by
  cases o
  exacts [rfl, h _]

theorem reports_withWords {body : List Word → Result} (h : ∀ ws, Reports i s [] (body ws)) (m : MemoryName)
    (o : Option (List Word)) : Reports i s [] (withWords m o body) := by
  cases o
  exacts [rfl, h _]

/-- A condition that fails exactly when the cause of its status applies. -/
theorem reports_require {cond : Bool} (hc : hasCause i s st = !cond) (h : Reports i s sts r)
    (hst : st ≠ .overrun := by decide) : Reports i s (st :: sts) (require cond st s r) := by
  cases cond
  exacts [reports_refuse hc hst, h.past hc]

theorem reports_prepared (hi : needsPrepared i = true) (h : Reports i s sts r) :
    Reports i s (.notPrep :: sts) (require s.prepared .notPrep s r) :=
  reports_require (by rw [hasCause, hi, Bool.true_and]) h

/-- Bit 0 of `S_ANEN` is set or clear (R372). -/
theorem State.analyzerOn_eq_not (s : State) : s.analyzerOn = !(s.settings.sAnen == 0#1) := by
  unfold State.analyzerOn
  generalize s.settings.sAnen = b
  revert b
  decide

theorem reports_withAnalyzer (hp : needsPrepared i = true) (ha : needsAnalyzer i = true) (h : Reports i s sts r) :
    Reports i s (.notPrep :: .disabled :: sts) (withAnalyzer s r) :=
  reports_prepared hp <| reports_require (by rw [hasCause, ha, Bool.true_and, s.analyzerOn_eq_not, Bool.not_not]) h

/-! ### Operand fields (R370) -/

theorem eq_code_of_channelOf {ch : BitVec 4} {c : Channel} (h : channelOf ch = some c) : ch = c.code := by
  obtain ⟨rfl, rfl⟩ | ⟨rfl, rfl⟩ := channelOf_eq_some h <;> rfl

theorem eq_code_of_cutOf {idx : BitVec 4} {cut : Cut} (h : cutOf idx = some cut) : idx = cut.code := by
  revert h
  cases cut <;> revert idx <;> decide

@[simp] theorem State.chanAt_code (s : State) (c : Channel) : s.chanAt c.code = s.chan c := by cases c <;> rfl

@[simp] theorem Channel.decide_one_lt_code (c : Channel) : decide (1 < c.code.toNat) = false := by cases c <;> rfl

/-- The `ch` field of a command: refused above 1, else the command goes on with the channel it names. -/
theorem reports_withChannel {f : BitVec 4 → Instr} {ch : BitVec 4} {body : Channel → Result}
    {rest : Bool} (hop : operandCause (f ch) s = (decide (1 < ch.toNat) || rest))
    (h : ∀ c, Reports (f c.code) s (.operand :: sts) (body c)) :
    Reports (f ch) s (.operand :: sts) (withChannel ch s body) := by
  unfold withChannel
  split
  · exact reports_refuse (hop.trans (by rw [decide_eq_true (channelOf_eq_none.1 ‹_›), Bool.true_or])) (by decide)
  · exact eq_code_of_channelOf ‹_› ▸ h _

/-- A command whose one operand is its channel. -/
theorem reports_onChannel {f : BitVec 4 → Instr} {ch : BitVec 4} {body : Channel → Result}
    (hop : ∀ ch, operandCause (f ch) s = decide (1 < ch.toNat)) (h : ∀ c, Reports (f c.code) s sts (body c)) :
    Reports (f ch) s (.operand :: sts) (withChannel ch s body) :=
  reports_withChannel ((hop ch).trans (Bool.or_false _).symm) fun c =>
    (h c).past ((hop c.code).trans c.decide_one_lt_code)

theorem reports_withCut {f : BitVec 4 → Instr} {idx : BitVec 4} {body : Cut → Result}
    (hop : ∀ idx, operandCause (f idx) s = !(idx.toNat == 0 || idx.toNat == 2))
    (h : ∀ cut, Reports (f cut.code) s sts (body cut)) : Reports (f idx) s (.operand :: sts) (withCut idx s body) := by
  unfold withCut
  split
  · exact reports_refuse ((hop idx).trans (by simpa using cutOf_eq_none.1 ‹_›)) (by decide)
  · rename_i cut hcut
    exact eq_code_of_cutOf hcut ▸ (h cut).past ((hop cut.code).trans (by cases cut <;> rfl))

theorem reports_withStage {idx : BitVec 4} {body : Fin 9 → Result} (hout : 8 < idx.toNat → operandCause i s = true)
    (h : ∀ u, ¬8 < idx.toNat → Reports i s (.operand :: sts) (body u)) :
    Reports i s (.operand :: sts) (withStage idx s body) := by
  unfold withStage
  split
  · exact reports_refuse (hout (stageOf_eq_none.1 ‹_›)) (by decide)
  · exact h _ fun hn => by cases (stageOf_eq_none.2 hn).symm.trans ‹_›

theorem reports_withPosition {idx : BitVec 4} {body : Fin 3 → Result} (hop : operandCause i s = decide (2 < idx.toNat))
    (h : ∀ p, Reports i s sts (body p)) : Reports i s (.operand :: sts) (withPosition idx s body) := by
  unfold withPosition
  split
  · exact reports_refuse (hop.trans (decide_eq_true (positionOf_eq_none.1 ‹_›))) (by decide)
  · exact (h _).past (hop.trans (decide_eq_false fun hn => by
      cases (positionOf_eq_none.2 hn).symm.trans ‹_›))

theorem reports_withCoefWord {n : Nat} {body : Fin 5 → Result} (hop : operandCause i s = decide (4 < n))
    (h : ∀ k, Reports i s sts (body k)) : Reports i s (.operand :: sts) (withCoefWord n s body) := by
  unfold withCoefWord
  split
  · exact reports_refuse (hop.trans (decide_eq_true (coefWordOf_eq_none.1 ‹_›))) (by decide)
  · exact (h _).past (hop.trans (decide_eq_false fun hn => by
      cases (coefWordOf_eq_none.2 hn).symm.trans ‹_›))

end Rules

/-! ### The conditions -/

/-- The comparison of a cause is the failure of the command's own. -/
theorem decide_lt_eq_not (a b : Nat) : decide (a < b) = !decide (b ≤ a) := by
  rw [← decide_not, decide_eq_decide, not_le]

/-- The condition of R333 that the block is quiescent. -/
theorem busyCause_of_quiescent {i : Instr} {s : State}
    (h : busyCause i s = (s.inBlock || s.chans.left.popActive || s.chans.right.popActive)) :
    hasCause i s .busy = !s.quiescent := by
  rw [hasCause, h, State.quiescent, ← Bool.not_or, ← Bool.not_or, Bool.not_not]

/-- The condition that no snapshot of the channel is pending (R64). -/
theorem busyCause_of_snapshot {i : Instr} {s : State} {c : Channel}
    (h : busyCause i s = ((s.chanAt c.code).sReq != (s.chanAt c.code).sAckN)) :
    hasCause i s .busy = !(!(s.chan c).snapPending) := by
  rw [hasCause, h, State.chanAt_code, Bool.not_not, Chan.snapPending]

section Conditions

variable (s : State) (c : Channel)

/-- The condition of R251 and R253 that more blocks are unread than the ring can keep. -/
theorem overrunCause_fpopb : overrunCause (.fpopb c.code) s = decide (s.config.fifoCap ≤ (s.chan c).unread.toNat) := by
  have hcap : 1 ≤ s.config.fifoCap := Nat.one_le_two_pow
  refine decide_eq_decide.2 ?_
  rw [State.chanAt_code, Chan.unread, BitVec.toNat_sub]
  omega

theorem overrunCause_fpope :
    overrunCause (.fpope c.code) s = !decide ((s.chan c).unread.toNat ≤ s.config.fifoCap - 1) := by
  refine (decide_eq_decide.2 ?_).trans (decide_not ..)
  rw [State.chanAt_code, Chan.unread, BitVec.toNat_sub]
  omega

/-- No block is unread when the snapshot is the read index (R251). -/
theorem emptyCause_fpopb : emptyCause (.fpopb c.code) s = !((s.chan c).unread != 0#32) := by
  rw [emptyCause, State.chanAt_code, bne, Bool.not_not, Chan.unread]
  exact Bool.eq_iff_iff.2 (by simp [BitVec.sub_eq_iff_eq_add])

/-- A bit of a bank select, read off the list of its bits. -/
theorem toList_getElem?_beq {n : Nat} (u v : Vector Bool n) (t : Fin n) :
    (u.toList[t.val]? == v.toList[t.val]?) = !(u.get t != v.get t) := by
  simp [Vector.get_eq_getElem, bne]

/-- CUTCFG goes by the stages, the statement by the places of the select bits (R188). -/
theorem staleCause_cutcfg (cut : Cut) (imm : BitVec 16) :
    staleCause (.cutcfg c.code cut.code imm) s = !s.cutFresh c cut (imm.toNat % 4) := by
  have hplace (j : Fin 4) : (if cut.code = 0#4 then 0 else 5) + j.val = (cut.stage j).val := by
    cases cut <;> simp [Cut.code, Cut.stage]
  have hsel (g : Cfg) : (if c.code = 1#4 then g.chans.right else g.chans.left) = g.chan c := by cases c <;> rfl
  have hstale (j : Fin 4) := toList_getElem?_beq (s.cfgSh.chan c).sel (s.cfgPosted.chan c).sel (cut.stage j)
  rw [Bool.eq_iff_iff, Bool.not_eq_true', ← Bool.not_eq_true, State.cutFresh_iff]
  simp only [staleCause, hsel, List.any_eq_true, List.mem_range, not_forall]
  constructor
  · rintro ⟨j, hj, h⟩
    refine ⟨⟨j, by omega⟩, Nat.le_of_lt_succ hj, ?_⟩
    rw [hplace ⟨j, by omega⟩, hstale] at h
    simpa [State.fresh] using h
  · rintro ⟨j, hj, h⟩
    refine ⟨j.val, Nat.lt_succ_of_le hj, ?_⟩
    rw [hplace, hstale]
    simpa [State.fresh] using h

end Conditions

/-! ### The commands -/

/-- The commands of the analyzer that consume what a flag of the channel announces. -/
theorem reports_consumer {f : BitVec 4 → Instr} {ch : BitVec 4} {s : State} {flag : Channel → Bool}
    {body : Channel → Result} (hop : ∀ ch, operandCause (f ch) s = decide (1 < ch.toNat))
    (hprepared : ∀ ch, needsPrepared (f ch) = true) (hanalyzer : ∀ ch, needsAnalyzer (f ch) = true)
    (hempty : ∀ c, emptyCause (f c.code) s = !flag c) (h : ∀ c, Reports (f c.code) s [] (body c)) :
    Reports (f ch) s [.operand, .notPrep, .disabled, .empty]
      (withChannel ch s fun c => withAnalyzer s <| require (flag c) .empty s (body c)) :=
  reports_onChannel hop fun c => reports_withAnalyzer (hprepared _) (hanalyzer _) <| reports_require (hempty c) (h c)

theorem exec_ctl_reports {i : Instr} (hp : i.port? = some .ctl) (s : State) : Reports i s statusOrder (exec i s) := by
  cases i with
  | prepare imm w =>
    refine reports_of [.operand, .busy, .range] rfl <| reports_require ?_ <| reports_require ?_ <|
      reports_require rfl reports_ok
    · rw [hasCause, operandCause, Bool.not_and, ← decide_lt_eq_not, ← decide_lt_eq_not, Bool.beq_eq_decide_eq]
      simp only [Nat.lt_one_iff]
    · exact busyCause_of_quiescent rfl
  | reset => exact reports_of [.busy] rfl <| reports_require (busyCause_of_quiescent rfl) reports_ok
  | wrs idx w =>
    refine reports_of [.operand, .range] rfl <| reports_require (decide_lt_eq_not _ _) <|
      reports_require ?_ reports_ok
    rw [legalSetting_eq_inLegalSet, hasCause, rangeCause]
  | rds idx => exact reports_of [] rfl reports_ok
  | wrc idx w =>
    exact reports_of [.operand, .range] rfl <| reports_withCoefWord rfl fun _ => reports_require rfl reports_ok
  | rdc idx => exact reports_of [.operand] rfl <| reports_withCoefWord rfl fun _ => reports_ok
  | facpk => exact reports_of [.notPrep] rfl <| reports_prepared rfl reports_ok
  | faclc imm =>
    refine reports_of [.operand, .notPrep] rfl <| reports_require ?_ <| reports_prepared rfl reports_ok
    rw [toNat_extract_two, ← decide_lt_eq_not, hasCause, operandCause]
  | fachc imm =>
    refine reports_of [.operand, .notPrep] rfl <| reports_require ?_ <| reports_prepared rfl reports_ok
    rw [toNat_extract_two, ← decide_lt_eq_not, hasCause, operandCause]
  | setcoef ch idx =>
    refine reports_of [.operand, .busy] rfl <| reports_withChannel (f := (.setcoef · idx)) rfl fun c =>
      reports_withStage ?_ fun _ hidx => .past (reports_require (Bool.not_not _).symm reports_ok) ?_
    · simp +contextual [operandCause]
    · simp [hasCause, operandCause, hidx]
  | cutcfg ch idx imm =>
    refine reports_of [.operand, .stale] rfl <| reports_withChannel (f := (.cutcfg · idx imm)) rfl fun c =>
      reports_withCut (f := (.cutcfg c.code · imm)) ?_ fun cut => reports_require ?_ reports_ok
    · simp [operandCause]
    · rw [toNat_extract_two]
      exact staleCause_cutcfg s c cut imm
  | posbyp ch idx imm =>
    refine reports_of [.operand] rfl <| reports_withChannel (f := (.posbyp · idx imm)) rfl fun c =>
      reports_withPosition ?_ fun _ => reports_ok
    simp [operandCause]
  | anen imm => exact reports_of [] rfl reports_ok
  | commit => exact reports_of [.busy] rfl <| reports_require (Bool.not_not _).symm reports_ok
  | rdcoef ch idx imm =>
    refine reports_of [.operand] rfl <|
      reports_withChannel (f := (.rdcoef · idx imm)) (Bool.or_assoc _ _ _) fun c =>
      reports_withStage ?_ fun _ hidx => reports_withCoefWord ?_ fun _ => reports_ok
    · simp +contextual [operandCause]
    · simp [operandCause, hidx]
  | rdcfg ch imm =>
    exact reports_of [.operand] rfl <| reports_onChannel (f := (.rdcfg · imm)) (fun _ => rfl) fun _ => reports_ok
  | _ => simp [Instr.port?] at hp

theorem exec_aud_reports {i : Instr} (hp : i.port? = some .aud) (s : State) : Reports i s statusOrder (exec i s) := by
  cases i with
  | blkbeg =>
    exact reports_of [.notPrep, .seq] rfl <| reports_prepared rfl <|
      reports_require (Bool.not_not _).symm reports_ok
  | smp ch w =>
    refine reports_of [.operand, .notPrep, .seq] rfl <|
      reports_onChannel (f := (.smp · w)) (fun _ => rfl) fun c =>
      reports_prepared rfl <| reports_require ?_ reports_ok
    simp [hasCause, seqCause, ← decide_not]
  | blkend =>
    refine reports_of [.notPrep, .seq] rfl <| reports_prepared rfl <| reports_require ?_ reports_ok
    simp [hasCause, seqCause, bne]
  | _ => simp [Instr.port?] at hp

/-- FPOPB past its guards: the ring overrun, or a pop opened (R251). -/
theorem reports_fpopb (s : State) (c : Channel) : Reports (.fpopb c.code) s [.overrun]
    (if s.config.fifoCap ≤ (s.chan c).unread.toNat then
      overrun (s.setChan c { s.chan c with rdIdx := (s.chan c).skipTarget s.config })
        ((s.chan c).unread - usableBlocks s.config)
    else
      doneWith (s.setChan c { s.chan c with popActive := true, popCnt := 0#16, snapPost := false, popValid := false })
        (s.chan c).unread) := by
  have hcause := overrunCause_fpopb s c
  split
  next h =>
    exact reports_overrun (hcause.trans (decide_eq_true h)) ⟨sameMemory_setChan (by rfl) _ _, c, .inl ⟨rfl, rfl⟩⟩
  next h => exact reports_ok.past (hcause.trans (decide_eq_false h))

/-- FPOPE past its guards: the pop validated, or the ring overrun (R253). -/
theorem reports_fpope (s : State) (c : Channel) : Reports (.fpope c.code) s [.overrun]
    (if (s.chan c).unread.toNat ≤ s.config.fifoCap - 1 then
      doneWith (s.setChan c { s.chan c with
        popActive := false, rdIdx := (s.chan c).rdIdx + 1#32, popValid := true }) ((s.chan c).unread - 1#32)
    else
      overrun (s.setChan c { s.chan c with
        popActive := false, rdIdx := (s.chan c).skipTarget s.config, popValid := false })
        ((s.chan c).unread - usableBlocks s.config)) := by
  have hcause := overrunCause_fpope s c
  split
  next h => exact reports_ok.past (hcause.trans (by rw [decide_eq_true h, Bool.not_true]))
  next h =>
    exact reports_overrun (hcause.trans (by rw [decide_eq_false h, Bool.not_false]))
      ⟨sameMemory_setChan (by rfl) _ _, c, .inr ⟨rfl, rfl⟩⟩

theorem exec_ana_reports {i : Instr} (hp : i.port? = some .ana) (s : State) : Reports i s statusOrder (exec i s) := by
  cases i with
  | fsnap ch =>
    exact reports_of [.operand, .busy] rfl <| reports_onChannel (f := .fsnap) (fun _ => rfl) fun c =>
      reports_require (busyCause_of_snapshot rfl) reports_ok
  | favail ch =>
    exact reports_of [.operand, .busy] rfl <| reports_onChannel (f := .favail) (fun _ => rfl) fun c =>
      reports_require (busyCause_of_snapshot rfl) reports_ok
  | fpopb ch =>
    refine reports_of [.operand, .notPrep, .disabled, .seq, .busy, .empty, .overrun] rfl <|
      reports_onChannel (f := .fpopb) (fun _ => rfl) fun c =>
      reports_withAnalyzer rfl rfl <| reports_require ?_ <| reports_require (busyCause_of_snapshot rfl) <|
      reports_require (emptyCause_fpopb s c) <| reports_fpopb s c
    simp [hasCause, seqCause]
  | frd ch =>
    refine reports_of [.operand, .seq] rfl <| reports_onChannel (f := .frd) (fun _ => rfl) fun c =>
      reports_require ?_ <| reports_withWord (fun _ => reports_ok) _ _
    simp [hasCause, seqCause, ← decide_not]
  | fpope ch =>
    -- Status by status: `rfl` on the whole list would evaluate the number of unread blocks.
    refine reports_onChannel (f := .fpope) (fun _ => rfl) fun c => .past (.past (reports_require ?_ <|
      reports_require (busyCause_of_snapshot rfl) <| .past (.past (.past (reports_fpope s c) rfl) rfl) rfl) rfl) rfl
    simp [hasCause, seqCause, bne]
  | accum ch =>
    exact reports_of _ rfl <| reports_consumer (f := .accum) (fun _ => rfl) (fun _ => rfl) (fun _ => rfl)
      (fun c => by rw [emptyCause, State.chanAt_code]) fun _ => reports_withWords (fun _ => reports_ok) _ _
  | xform ch =>
    exact reports_of _ rfl <| reports_consumer (f := .xform) (fun _ => rfl) (fun _ => rfl) (fun _ => rfl)
      (fun c => by rw [emptyCause, State.chanAt_code]) fun _ => reports_ok
  | rdbin ch imm =>
    refine reports_of [.operand, .empty] rfl <| reports_withChannel (f := (.rdbin · imm)) rfl fun c =>
      reports_require ?_ <| reports_require ?_ <| reports_withWord (fun _ => reports_ok) _ _
    · simp [hasCause, operandCause, ← decide_not]
    · rw [hasCause, emptyCause, State.chanAt_code]
  | map ch =>
    exact reports_of _ rfl <| reports_consumer (f := .map) (fun _ => rfl) (fun _ => rfl) (fun _ => rfl)
      (fun c => by rw [emptyCause, State.chanAt_code]) fun _ => reports_withWords (fun _ => reports_ok) _ _
  | publish ch =>
    exact reports_of _ rfl <| reports_consumer (f := .publish) (fun _ => rfl) (fun _ => rfl) (fun _ => rfl)
      (fun c => by rw [emptyCause, State.chanAt_code]) fun _ => reports_ok
  | _ => simp [Instr.port?] at hp

theorem exec_ren_reports {i : Instr} (hp : i.port? = some .ren) (s : State) : Reports i s statusOrder (exec i s) := by
  cases i with
  | ptake ch =>
    refine reports_of [.operand, .empty] rfl <| reports_onChannel (f := .ptake) (fun _ => rfl) fun c =>
      reports_require ?_ reports_ok
    rw [hasCause, emptyCause, State.chanAt_code]
  | prd ch imm =>
    refine reports_of [.operand, .empty] rfl <| reports_withChannel (f := (.prd · imm)) rfl fun c =>
      reports_require ?_ <| reports_require ?_ <| reports_withWord (fun _ => reports_ok) _ _
    · simp [hasCause, operandCause, ← decide_not]
    · rw [hasCause, emptyCause, State.chanAt_code]
  | _ => simp [Instr.port?] at hp

theorem exec_reports (i : Instr) (s : State) : Reports i s statusOrder (exec i s) := by
  match hp : i.port? with
  | none =>
    obtain rfl := eq_nop_of_port hp
    exact reports_of [] rfl reports_ok
  | some .ctl => exact exec_ctl_reports hp s
  | some .aud => exact exec_aud_reports hp s
  | some .ana => exact exec_ana_reports hp s
  | some .ren => exact exec_ren_reports hp s

/-! ### The statements -/

/-- Settles O46: every command reports the first status of the order. -/
theorem statusFollowsPriority : Obligations.StatusFollowsPriority := by
  intro i s
  have h := exec_reports i s
  rw [reported_eq_firstCause]
  refine ⟨fun t ht => ?_, fun f hf => ?_, fun r hr => ?_⟩
  · rw [ht] at h
    exact h.1
  · rw [hf] at h
    exact h
  · rw [hr] at h
    exact h

/-- No command of AUD waits for a handshake (R374). -/
theorem busyCause_of_aud {i : Instr} (hp : i.port? = some .aud) (s : State) : busyCause i s = false := by
  cases i with
  | blkbeg => rfl
  | smp ch w => rfl
  | blkend => rfl
  | _ => simp [Instr.port?] at hp

/-- Settles O47: what a command leaves is read off the status it reports. -/
theorem refusalChangesNothing : Obligations.RefusalChangesNothing := by
  intro i s t a ht ha hok
  have h := exec_reports i s
  rw [ht] at h
  obtain ⟨⟨w, hw⟩, hover, hrefuse⟩ := h
  obtain rfl := Option.some.inj (ha.symm.trans hw)
  refine ⟨fun hne => ?_, fun hbusy hp => ?_, fun ho => ?_⟩
  · obtain rfl := hrefuse hok hne
    obtain rfl : 0#32 = w := congrArg Answer.rdata (Option.some.inj ha)
    exact ⟨rfl, onlyAnswer_answered s _ _⟩
  · have hcause : busyCause i s = true := hasCause_of_firstCause hbusy (by decide)
    exact Bool.false_ne_true ((busyCause_of_aud hp s).symm.trans hcause)
  · rw [← ha]
    exact hover ho

end Sys2Proof.Machine
end
